-- ==== Sys2Proof/Word.lean ====
section
/-! DEFINITION. The words of the block: a byte of the Byte Buffer and a command word. -/

namespace Sys2Proof

/-- One byte of the Byte Buffer (00_scope.md R8). -/
abbrev Byte := BitVec 8

/-- A command word: `op = cmd[35:32]`, `arg = cmd[31:0]` (30_encoding.md R91). -/
abbrev CmdWord := BitVec 36

end Sys2Proof
end

