-- ==== Sys2Proof/Config.lean ====
section
/-! DEFINITION. What an implementation of the block fixes: the names the spec enumerates, the fixed widths, the
parameters of 00_scope.md R6 (`Params`, held in `State.cfg`), the language in which a body hook is written, and the
free values (opaque constants nothing can evaluate). -/

namespace Sys2Proof

/-! ### Names the spec enumerates -/

/-- Direction of a map (10_state.md R42). -/
inductive Dir | dl | ul
  deriving DecidableEq, Repr

/-- Message family (10_state.md R42). -/
inductive Family | legacy | compact
  deriving DecidableEq, Repr

/-- The five message kinds, codes 0 to 4 in this order (45_message_decoders.md R260). -/
inductive MsgKind | dlMap | ulMap | compactDlMap | compactUlMap | raasPrivateMap
  deriving DecidableEq, Repr

/-- `cid_type`, codes 0 to 3 in this order (10_state.md R30). -/
inductive CidType | normal16 | reduced11 | reduced7 | reduced3
  deriving DecidableEq, Repr

/-- `harq_mode`, codes 0 and 1 in this order (10_state.md R30). -/
inductive HarqMode | legacyPerConnection | shortenedDiuc
  deriving DecidableEq, Repr

/-- The twelve Level-1 (Extended) kinds (30_encoding.md R98, 42_ie_dispatch.md R184 to R196). -/
inductive L1Kind
  | channelMeasurement | stcZone | aas | dataLocationOtherBs | cidSwitch | mimoBasic | mimoEnhanced
  | harqMapPointer | phyModifier | broadcastControlPointer | puscBurstOtherSegment | interferenceNoiseLevel
  deriving DecidableEq, Repr

/-- The seven Level-2 (Extended-2) kinds (30_encoding.md R100, 42_ie_dispatch.md R200 to R206). -/
inductive L2Kind
  | mbsMap | handoverVariant | skipIe | harqMap | harqAckBitmap | enhancedDlMap | aasSdma
  deriving DecidableEq, Repr

/-- A kind that a sub-type selects at either level of the dispatch (42_ie_dispatch.md R161). -/
inductive IeKind | l1 (k : L1Kind) | l2 (k : L2Kind)
  deriving DecidableEq, Repr

/-- The level a sub-type is looked up at (42_ie_dispatch.md R161). -/
inductive Level | one | two
  deriving DecidableEq, Repr

/-- The seven sub-burst layouts (43_sub_burst.md R222, R230 to R236). -/
inductive Layout | chase | irCtc | irCc | mimoChase | mimoIr | mimoIrCc | mimoStc
  deriving DecidableEq, Repr

/-- The Compact-family kinds the document names, and every other one by its type code (42_ie_dispatch.md R213). -/
inductive CompactKind
  | formatConfiguration | harqModeSwitch | normalSubchannel | bandAmc | safety | other (code : Nat)
  deriving DecidableEq, Repr

/-- The four Control-Sub-IE hooks (43_sub_burst.md R229). -/
inductive ControlKind | harqControl | cqichControl | dedicatedMimoDl | dedicatedMimoUl
  deriving DecidableEq, Repr

/-- What a body hook stands for: the index of `BODY[...]` and `MSG_HDR[...]` (42_ie_dispatch.md R180,
43_sub_burst.md R221, R225, R229, 45_message_decoders.md R263). -/
inductive HookId
  | l1 (k : L1Kind) | l2 (k : L2Kind) | compact (k : CompactKind) | harqHdr (d : Dir)
  | sbPre (d : Dir) (l : Layout) | sbLayer (d : Dir) (l : Layout) | sbPost (d : Dir) (l : Layout)
  | control (k : ControlKind) | msgHdr (k : MsgKind)
  deriving DecidableEq, Repr

/-- Field identifiers of output records (10_state.md R45). -/
inductive FieldId
  | l0Type | nCid | cid | regBody (k : Nat) | subtype | length | body (h : HookId) | reservedSkipped
  | unimplementedSkipped | sbMode | nSubBurst | trailer16 | trailer32 | hook (h : HookId) (k : Nat)
  deriving DecidableEq, Repr

/-- The three kinds of warning (10_state.md R46, 60_exceptions.md R282). -/
inductive WarnKind | checksumMismatch | lengthConsistency | unknownVariant
  deriving DecidableEq, Repr

/-- The errors that can end an operation (60_exceptions.md R281; ChecksumMismatch is a warning only). -/
inductive ErrKind | truncated | unknownVariant | inconsistentLength
  deriving DecidableEq, Repr

/-- Loop discipline of a sub-burst container (43_sub_burst.md R223). -/
inductive LoopKind | count | length
  deriving DecidableEq, Repr

/-- What Level-0 codes 11 and 12 do (42_ie_dispatch.md R168). -/
inductive L0Policy | stop | regular
  deriving DecidableEq, Repr

/-- The OPEN parameters whose absence refuses an operation with NoParameter (60_exceptions.md R287). -/
inductive OpenParam | l1LenBitsUl | l1MapUl | l2MapUl | nSubBurstBits | sbLoop | sbCrc | contCrc
  deriving DecidableEq, Repr

/-! ### The Decoding Session -/

/-- `fmt_cfg` (10_state.md R30, R36). -/
structure FmtCfg where
  maxLogicalBands : Nat := 0
  bandAmcSubchannelType : Nat := 0
  symbolCounts : List Nat := []
  deriving DecidableEq, Repr

/-- The Decoding Session registers (10_state.md R30). The default values are `SESSION_INIT` (R38). -/
structure Session where
  cidType : CidType := .normal16
  harqMode : HarqMode := .legacyPerConnection
  nLayer : BitVec 2 := 0
  stcZoneMatrix : Nat := 0
  stcZoneDedicatedPilots : Nat := 0
  incCid : Bool := false
  fmtCfg : FmtCfg := {}
  deriving DecidableEq, Repr

/-! ### Body hooks as programs

A hook is a parameter of the block: a deterministic function of the bits of its region, the session, `dir`,
`cqich_id_width` and `include_cor2_changes` that uses the cursor operations only (42_ie_dispatch.md R180). The model
writes a hook as a program over exactly the operations that contract allows (DESIGN CHOICE, log 5). -/

/-- A session register as a hook reads it, by its code (42_ie_dispatch.md R180, 10_state.md R30); of the list of symbol
counts, how many there are, the counts themselves being `HookExpr.symbolCount`. -/
inductive SessionRef
  | cidType | harqMode | nLayer | stcZoneMatrix | stcZoneDedicatedPilots | incCid | maxLogicalBands
  | bandAmcSubchannelType | symbolCountNumber
  deriving DecidableEq, Repr

/-- Expressions of a hook, natural numbers; comparisons give 1 or 0. A slot holds what the hook stored there; `slotAt` and
`symbolCount` compute which slot, or which of the symbol counts, is meant. -/
inductive HookExpr
  | lit (n : Nat) | slot (i : Nat) | slotAt (i : HookExpr) | session (r : SessionRef) | symbolCount (i : HookExpr)
  | pos | rem | drem | dirUl | cqichIdWidth | includeCor2Changes
  | add (a b : HookExpr) | sub (a b : HookExpr) | mul (a b : HookExpr) | div (a b : HookExpr)
  | mod (a b : HookExpr) | eq (a b : HookExpr) | lt (a b : HookExpr)
  deriving DecidableEq, Repr

/-- The `kind` of a Bracket that a hook issues (42_ie_dispatch.md R172): one the hook names (`none` is Unknown), or the one
that the map of a level gives the sub-type, as the dispatch itself looks it up (R170, R171). -/
inductive NestedKind | given (k : Option IeKind) | mapped (lvl : Level)
  deriving DecidableEq, Repr

/-- Programs of a hook: one constructor for each thing 42_ie_dispatch.md R180 lets a hook do, and the control
structure around them. `field` is the `k` of the record `HOOK(kind, k)` to emit with the bits, if any; `emit` emits one
for bits the hook has already passed; `warn` gives the `off` and `info` of its record, which 10_state.md R46 and R180 leave
to the hook (DESIGN CHOICE, log 5). The answer of `verify16` is not the program's to decide by: after a mismatch the caller
goes on exactly as after a match (44_checksum.md R252, 45_message_decoders.md R268 (e)). The record of an `rcid` is the
hook's choice, but a sub-burst emits each (43_sub_burst.md R225). `ul` is the `dir` of a nested Bracket or container, UL
where it is not 0. -/
inductive HookProg
  | nop
  | assign (slot : Nat) (e : HookExpr)
  | assignAt (slot e : HookExpr)
  | read (slot : Nat) (w : HookExpr) (field : Option HookExpr)
  | read48 (slot : Nat) (field : Option HookExpr)
  | read64 (slot : Nat) (field : Option HookExpr)
  | rcid (cidSlot widthSlot : Nat) (emit : Bool)
  | skip (w : HookExpr) (field : Option HookExpr)
  | padn
  | padb
  | emit (k off len : HookExpr) (byteString : Bool)
  | warn (kind : WarnKind) (off info : HookExpr)
  | verify16
  | control (k : ControlKind)
  | nestedIe (kind : NestedKind) (ul subtype lenBits ieStart : HookExpr)
  | region (lenBits : HookExpr) (a : HookProg)
  | container (ul : HookExpr)
  | seq (a b : HookProg)
  | ite (c : HookExpr) (a b : HookProg)
  | loop (n : HookExpr) (a : HookProg)
  | whileDrem (a : HookProg)
  | writeNLayer (e : HookExpr)
  | writeCidType (e : HookExpr)
  deriving DecidableEq, Repr

/-- A hook: its program and the values it returns to the rule of its kind, in the order that rule names them; a value
may be left out (42_ie_dispatch.md R186, R214, R215, 45_message_decoders.md R263). Where `more` is `(a, n)` there follow
the `n` slots from slot `a` on, so that how many values return may depend on what the hook read (10_state.md R36). -/
structure HookDef where
  prog : HookProg
  rets : List (Option HookExpr) := []
  more : Option (HookExpr × HookExpr) := none
  deriving DecidableEq, Repr

/-! ### Parameters (00_scope.md R6) -/

/-- The sub-type and mode maps; a code that has no entry is Unknown, a map that is `none` was not supplied. -/
structure Maps where
  l1Dl : List (Nat × L1Kind)
  l1Ul : Option (List (Nat × L1Kind))
  l2Dl : List (Nat × L2Kind)
  l2Ul : Option (List (Nat × L2Kind))
  sbDl : List (Nat × Layout)
  sbUl : List (Nat × Layout)
  deriving DecidableEq, Repr

/-- The default of `L1_MAP_DL` (30_encoding.md R98). -/
def Maps.defaultL1Dl : List (Nat × L1Kind) :=
  [(0, .channelMeasurement), (1, .stcZone), (2, .aas), (3, .dataLocationOtherBs), (4, .cidSwitch), (5, .mimoBasic),
   (6, .mimoEnhanced), (7, .harqMapPointer), (8, .phyModifier), (10, .broadcastControlPointer),
   (11, .puscBurstOtherSegment), (15, .interferenceNoiseLevel)]

/-- The default of `L2_MAP_DL` (30_encoding.md R100). -/
def Maps.defaultL2Dl : List (Nat × L2Kind) :=
  [(0, .mbsMap), (1, .handoverVariant), (2, .handoverVariant), (3, .handoverVariant), (6, .skipIe), (7, .harqMap),
   (8, .harqAckBitmap), (9, .enhancedDlMap), (14, .aasSdma)]

/-- The default of `SB_MODE_MAP_DL` and `SB_MODE_MAP_UL` (30_encoding.md R101). -/
def Maps.defaultSb : List (Nat × Layout) :=
  [(0, .chase), (1, .irCtc), (2, .irCc), (3, .mimoChase), (4, .mimoIr), (5, .mimoIrCc), (6, .mimoStc)]

/-- The default maps: the uplink Level-1 and Level-2 maps have none (00_scope.md R6, 92_eei_decisions.md D17). -/
def Maps.default : Maps :=
  { l1Dl := Maps.defaultL1Dl, l1Ul := none, l2Dl := Maps.defaultL2Dl, l2Ul := none
    sbDl := Maps.defaultSb, sbUl := Maps.defaultSb }

/-- `COMPACT_MAP`: the width of the family's type code and the kind each code selects; a code without an entry is
`.other` (42_ie_dispatch.md R213; the form is a DESIGN CHOICE, log 13). -/
structure CompactMap where
  codeBits : Nat
  table : List (Nat × CompactKind)
  deriving DecidableEq, Repr

/-- The parameters of 00_scope.md R6 that it gives one value ("doc", "decision" or "gk"), with that value: the maximal
width of a READ, the depth of the limit stack, the widths of the fields of an IE, the checksum polynomials (log 22). -/
structure DocParams where
  readMaxBits : Nat := 32
  limDepth : Nat := 4
  l0TypeBits : Nat := 4
  subtypeBits : Nat := 4
  l1LenBitsDl : Nat := 8
  l2LenBits : Nat := 8
  regBodyBits : Nat := 32
  regBodyBitsAlt : Nat := 64
  crc32Poly : BitVec 32 := 0x04C11DB7
  crc16Poly : BitVec 16 := 0x1021
  deriving DecidableEq, Repr

/-- The parameters of 00_scope.md R6. `none`, or no entry in a list, is "OPEN, not supplied". -/
structure Params where
  doc : DocParams
  maxLenBytes : Option Nat
  lenUnitBits : Nat
  l1LenBitsUl : Option Nat
  maps : Maps
  compactMap : Option CompactMap
  l0Unassigned : L0Policy
  ncidBits : Nat
  nSubBurstBits : Option Nat
  sbLoop : List ((Dir × Layout) × LoopKind)
  sbCrc : List ((Dir × Layout × Bool) × Bool)
  contCrc : List ((Dir × Layout × Bool) × Bool)
  crc32Reflect : Bool
  crc16Reflect : Option Bool
  hooks : List (HookId × HookDef)
  sessionInit : Session
  raasIeKind : Dir × Family
  deriving DecidableEq, Repr

/-- The defaults of 00_scope.md R6; every OPEN parameter is not supplied. -/
def Params.default : Params :=
  { doc := {}, maxLenBytes := none, lenUnitBits := 8, l1LenBitsUl := none, maps := Maps.default, compactMap := none
    l0Unassigned := .stop, ncidBits := 8, nSubBurstBits := none, sbLoop := [], sbCrc := [], contCrc := []
    crc32Reflect := true, crc16Reflect := none, hooks := [], sessionInit := {}, raasIeKind := (.dl, .legacy) }

namespace Config

/-! ### Fixed numbers -/

/-- The largest legal `cqich_id_width` (10_state.md R39). -/
def cqichIdWidthMax : Nat := 9

/-- How many calls of hooks may stand one inside the other for each bit of the buffer that is left: a chain of calls
longer than that takes 2^64 calls without consuming a bit, and is taken as one that never ends (70_reset_and_hazards.md
R320, log 18). -/
def callsPerBit : Nat := 2 ^ 64

/-! ### Free values

Each is a constant with no body, so that nothing can be proved of its value; the argument is `State.draws`. -/

/-- One sample of `alt_format` that the host has not fixed (10_state.md R41; log 6). -/
opaque freeAltFormat : Nat → Bool

/-- A session number that an opaque body leaves unspecified (42_ie_dispatch.md R181; log 7). -/
opaque freeNat : Nat → Nat

/-- The symbol counts that an opaque body leaves unspecified (42_ie_dispatch.md R181, R214; log 7). -/
opaque freeSymbolCounts : Nat → List Nat

/-- A `cid_type` left unspecified: any of the four (42_ie_dispatch.md R181, 45_message_decoders.md R263; log 7). -/
opaque freeCidType : Nat → BitVec 2

/-- A `harq_mode` left unspecified: any of the two (42_ie_dispatch.md R181, R215; log 7). -/
opaque freeHarqMode : Nat → Bool

/-- `CRC16_REFLECT` where it was not supplied (00_scope.md R6 OPEN; log 10). -/
opaque freeCrc16Reflect : Bool

end Config

end Sys2Proof
end

