-- ==== Sys2Proof/Syntax.lean ====
section
/-! DEFINITION. The instructions: one constructor per row of spec/opcode_table.json, in the table's order.

A command carries its argument fields (30_encoding.md R91). A wire structure carries nothing: its constructor says
which structure stands at POS, and its fields are read through the Bit Cursor by its meaning, since "a wire structure
is decoded only by reading it through the Bit Cursor" (30_encoding.md R90; log 2). -/

namespace Sys2Proof

/-- The instructions of the block (00_scope.md R1: command port and wire format). -/
inductive Instr
  -- commands of the command port (30_encoding.md R91)
  | init (start : BitVec 32)
  | read (w : BitVec 6)
  | skip (w : BitVec 32)
  | padn
  | padb
  | rem
  | pushlim (n : BitVec 32)
  | poplim
  | rcid
  | crc16
  | crc32
  | verify16
  | verify32
  | ieDlLegacy
  | ieUlLegacy
  | ieDlCompact
  | ieUlCompact
  | msgDlMap
  | msgUlMap
  | msgCompactDlMap
  | msgCompactUlMap
  | msgRaasPrivateMap
  | msgReservedKind5 (hi : BitVec 29)
  | msgReservedKind6 (hi : BitVec 29)
  | msgReservedKind7 (hi : BitVec 29)
  | reserved (arg : BitVec 32)
  -- Level-0 codes (30_encoding.md R95)
  | regType0
  | regType1
  | regType2
  | regType3
  | regType4
  | regType5
  | regType6
  | regType7
  | regType8
  | regType9
  | regType10
  | l0Unassigned11
  | l0Unassigned12
  | gapPapr
  -- escapes to Level 2 and Level 1 (30_encoding.md R95 to R97, R99)
  | extended2
  | extended
  | extendedUplink
  -- Level-1 sub-types, default map (30_encoding.md R98)
  | channelMeasurement
  | stcZone
  | aas
  | dataLocationOtherBs
  | cidSwitch
  | mimoBasic
  | mimoEnhanced
  | harqMapPointer
  | phyModifier
  | unknownL1Code9
  | broadcastControlPointer
  | puscBurstOtherSegment
  | unknownL1Code12
  | unknownL1Code13
  | unknownL1Code14
  | interferenceNoiseLevel
  -- Level-2 sub-types, default map (30_encoding.md R100)
  | mbsMap
  | handoverVariant1
  | handoverVariant2
  | handoverVariant3
  | unknownL2Code4
  | unknownL2Code5
  | skipIe
  | harqMap
  | harqAckBitmap
  | enhancedDlMap
  | unknownL2Code10
  | unknownL2Code11
  | unknownL2Code12
  | unknownL2Code13
  | aasSdma
  | unknownL2Code15
  -- sub-burst modes, default map (30_encoding.md R101)
  | sbChase
  | sbIrCtc
  | sbIrCc
  | sbMimoChase
  | sbMimoIr
  | sbMimoIrCc
  | sbMimoStc
  | unknownSbMode7
  | unknownSbMode8
  | unknownSbMode9
  | unknownSbMode10
  | unknownSbMode11
  | unknownSbMode12
  | unknownSbMode13
  | unknownSbMode14
  | unknownSbMode15
  -- Reduced-CID forms (30_encoding.md R102)
  | rcidN16
  | rcidP1
  | rcidP0_11
  | rcidP0_7
  | rcidP0_3
  -- trailers (30_encoding.md R103)
  | trailer16
  | trailer32
  -- the Compact family (30_encoding.md R104)
  | compactIe
  -- pseudo-operations (30_encoding.md R111)
  | rd48
  | rd64
  | readn (k : Nat)
  | skipn (k : Nat)
  | remn
  deriving DecidableEq, Repr

end Sys2Proof
end

