-- ==== Sys2Proof/WellFormed.lean ====
section
/-! DEFINITION. Which instructions are well formed: the operand ranges the spec states beside an encoding's width. -/

namespace Sys2Proof

/-- Every operand is in the range its rule gives: READ at most 32 bits (40_bit_cursor.md R121), READN at most 8 nibbles
and SKIPN a count that fits `arg` (30_encoding.md R111, 40_bit_cursor.md R122, R131). Every other constructor's operands
are as wide as their fields, so that each value is admitted. -/
def Instr.wf : Instr → Bool
  | .read w => decide (w.toNat ≤ 32)
  | .readn k => decide (k ≤ 8)
  | .skipn k => decide (4 * k < 2 ^ 32)
  | _ => true

end Sys2Proof
end

