-- ==== Sys2Proof/Decode.lean ====
section
/-! DEFINITION. The decoders, total on any bits, and the encoder.

The block decodes three things and they never mix (30_encoding.md R90): a command word of the command port, the head of
a wire structure read through the cursor, and (the model's host side) a pseudo-operation, which stands for the command
words it expands to (R111). `Code` says which. -/

namespace Sys2Proof

/-- Why a code is no instruction. -/
inductive Reject
  | badArgument   -- must-be-zero bits of `arg` are not zero (30_encoding.md R92)
  | shortHead     -- fewer bits than the head of the structure takes
  | notAPseudo    -- the words are no pseudo-operation's expansion (30_encoding.md R111)
  deriving DecidableEq, Repr

/-- What a decoder expects to find in the buffer (30_encoding.md R93 to R104). -/
inductive WireFormat
  | ie (d : Dir) | compact | sb (d : Dir) | rcid (t : CidType) | trailer16 | trailer32
  deriving DecidableEq, Repr

/-- A code to decode: a command word, a wire structure's first bits (first bit on the wire first), or the command words
a pseudo-operation expands to. -/
inductive Code
  | cmd (w : CmdWord) | wire (f : WireFormat) (head : List Bool) | pseudo (ws : List CmdWord)
  deriving DecidableEq, Repr

/-! ### Command words (30_encoding.md R91, R92, R107) -/

/-- `op = cmd[35:32]`. -/
def cmdOp (w : CmdWord) : BitVec 4 := w.extractLsb' 32 4

/-- `arg = cmd[31:0]`. -/
def cmdArg (w : CmdWord) : BitVec 32 := w.extractLsb' 0 32

/-- An operation without operands: every bit of `arg` must be zero. -/
def decodeNoArg (arg : BitVec 32) (i : Instr) : Except Reject Instr :=
  if arg = 0 then .ok i else .error .badArgument

/-- READ: `w = arg[5:0]`, `arg[31:6]` = 0. -/
def decodeRead (arg : BitVec 32) : Except Reject Instr :=
  if arg.extractLsb' 6 26 = 0 then .ok (.read (arg.extractLsb' 0 6)) else .error .badArgument

/-- IE: `arg[0]` = dir, `arg[1]` = family, `arg[31:2]` = 0. -/
def decodeIeCmd (arg : BitVec 32) : Except Reject Instr :=
  if arg.extractLsb' 2 30 = 0 then
    match (arg.extractLsb' 0 2).toNat with
    | 0 => .ok .ieDlLegacy
    | 1 => .ok .ieUlLegacy
    | 2 => .ok .ieDlCompact
    | _ => .ok .ieUlCompact
  else .error .badArgument

/-- MSG: `arg[2:0]` = msg_kind, `arg[31:3]` = 0; kinds 5 to 7 are rows of their own whatever the other bits are. -/
def decodeMsgCmd (arg : BitVec 32) : Except Reject Instr :=
  let hi := arg.extractLsb' 3 29
  match (arg.extractLsb' 0 3).toNat with
  | 0 => if hi = 0 then .ok .msgDlMap else .error .badArgument
  | 1 => if hi = 0 then .ok .msgUlMap else .error .badArgument
  | 2 => if hi = 0 then .ok .msgCompactDlMap else .error .badArgument
  | 3 => if hi = 0 then .ok .msgCompactUlMap else .error .badArgument
  | 4 => if hi = 0 then .ok .msgRaasPrivateMap else .error .badArgument
  | 5 => .ok (.msgReservedKind5 hi)
  | 6 => .ok (.msgReservedKind6 hi)
  | _ => .ok (.msgReservedKind7 hi)

/-- The command word (30_encoding.md R91). -/
def decodeCmd (w : CmdWord) : Except Reject Instr :=
  let arg := cmdArg w
  match (cmdOp w).toNat with
  | 0x0 => .ok (.init arg)
  | 0x1 => decodeRead arg
  | 0x2 => .ok (.skip arg)
  | 0x3 => decodeNoArg arg .padn
  | 0x4 => decodeNoArg arg .padb
  | 0x5 => decodeNoArg arg .rem
  | 0x6 => .ok (.pushlim arg)
  | 0x7 => decodeNoArg arg .poplim
  | 0x8 => decodeNoArg arg .rcid
  | 0x9 => decodeNoArg arg .crc16
  | 0xA => decodeNoArg arg .crc32
  | 0xB => decodeNoArg arg .verify16
  | 0xC => decodeNoArg arg .verify32
  | 0xD => decodeIeCmd arg
  | 0xE => decodeMsgCmd arg
  | _ => .ok (.reserved arg)

/-! ### Wire structures (30_encoding.md R93 to R104) -/

/-- The value of bits, the first one most significant (00_scope.md R9). -/
def bitsVal (bs : List Bool) : Nat := bs.foldl (fun v b => 2 * v + b.toNat) 0

/-- The row of a Level-1 kind under sub-type `s` (30_encoding.md R98); a sub-type without a kind has a row of its own
where the table gives it one, else the row of the escape itself. -/
def l1Row (s : Nat) : Option L1Kind → Instr
  | some .channelMeasurement => .channelMeasurement
  | some .stcZone => .stcZone
  | some .aas => .aas
  | some .dataLocationOtherBs => .dataLocationOtherBs
  | some .cidSwitch => .cidSwitch
  | some .mimoBasic => .mimoBasic
  | some .mimoEnhanced => .mimoEnhanced
  | some .harqMapPointer => .harqMapPointer
  | some .phyModifier => .phyModifier
  | some .broadcastControlPointer => .broadcastControlPointer
  | some .puscBurstOtherSegment => .puscBurstOtherSegment
  | some .interferenceNoiseLevel => .interferenceNoiseLevel
  | none =>
    match s with
    | 9 => .unknownL1Code9
    | 12 => .unknownL1Code12
    | 13 => .unknownL1Code13
    | 14 => .unknownL1Code14
    | _ => .extended

/-- The row of a Level-2 kind under sub-type `s` (30_encoding.md R100); HANDOVER_VARIANT has a row for each of the three
default codes. -/
def l2Row (s : Nat) : Option L2Kind → Instr
  | some .mbsMap => .mbsMap
  | some .handoverVariant =>
    match s with
    | 2 => .handoverVariant2
    | 3 => .handoverVariant3
    | _ => .handoverVariant1
  | some .skipIe => .skipIe
  | some .harqMap => .harqMap
  | some .harqAckBitmap => .harqAckBitmap
  | some .enhancedDlMap => .enhancedDlMap
  | some .aasSdma => .aasSdma
  | none =>
    match s with
    | 4 => .unknownL2Code4
    | 5 => .unknownL2Code5
    | 10 => .unknownL2Code10
    | 11 => .unknownL2Code11
    | 12 => .unknownL2Code12
    | 13 => .unknownL2Code13
    | 15 => .unknownL2Code15
    | _ => .extended2

/-- The row of a sub-burst mode (30_encoding.md R101). -/
def sbRow (m : Nat) : Option Layout → Instr
  | some .chase => .sbChase
  | some .irCtc => .sbIrCtc
  | some .irCc => .sbIrCc
  | some .mimoChase => .sbMimoChase
  | some .mimoIr => .sbMimoIr
  | some .mimoIrCc => .sbMimoIrCc
  | some .mimoStc => .sbMimoStc
  | none =>
    match m with
    | 8 => .unknownSbMode8
    | 9 => .unknownSbMode9
    | 10 => .unknownSbMode10
    | 11 => .unknownSbMode11
    | 12 => .unknownSbMode12
    | 13 => .unknownSbMode13
    | 14 => .unknownSbMode14
    | 15 => .unknownSbMode15
    | _ => .unknownSbMode7

/-- A field of `w` bits at the start of a head, and what follows it; none where the head is shorter. -/
def takeField (w : Nat) (head : List Bool) : Option (Nat × List Bool) :=
  if head.length < w then none else some (bitsVal (head.take w), head.drop w)

/-- An Extended head: the sub-type row where the sub-type is there, else the escape's own row; an uplink Extended IE
has one row (30_encoding.md R96, R97). -/
def decodeExtended (c : Params) (d : Dir) (rest : List Bool) : Instr :=
  match d, takeField c.doc.subtypeBits rest with
  | .ul, _ => .extendedUplink
  | .dl, some (s, _) => l1Row s (c.maps.l1Dl.lookup s)
  | .dl, none => .extended

/-- An Extended-2 head, both directions (30_encoding.md R99); without a map for the direction, the escape's own row. -/
def decodeExtended2 (c : Params) (d : Dir) (rest : List Bool) : Instr :=
  match takeField c.doc.subtypeBits rest, (match d with | .dl => some c.maps.l2Dl | .ul => c.maps.l2Ul) with
  | some (s, _), some m => l2Row s (m.lookup s)
  | _, _ => .extended2

/-- The Level-0 code (30_encoding.md R95), and the sub-type after an escape. A code above 15, which only an
`L0_TYPE_BITS` above its documented 4 could give, has the row of an unassigned one (log 22). -/
def l0Row (c : Params) (d : Dir) (t : Nat) (rest : List Bool) : Instr :=
  match t with
  | 0 => .regType0
  | 1 => .regType1
  | 2 => .regType2
  | 3 => .regType3
  | 4 => .regType4
  | 5 => .regType5
  | 6 => .regType6
  | 7 => .regType7
  | 8 => .regType8
  | 9 => .regType9
  | 10 => .regType10
  | 11 => .l0Unassigned11
  | 12 => .l0Unassigned12
  | 13 => .gapPapr
  | 14 => decodeExtended2 c d rest
  | 15 => decodeExtended c d rest
  | _ => .l0Unassigned12

/-- The RCID form that `cid_type` and the first bit choose (30_encoding.md R102). -/
def decodeRcid (t : CidType) (head : List Bool) : Except Reject Instr :=
  match t, head with
  | .normal16, _ => .ok .rcidN16
  | _, [] => .error .shortHead
  | _, true :: _ => .ok .rcidP1
  | .reduced11, false :: _ => .ok .rcidP0_11
  | .reduced7, false :: _ => .ok .rcidP0_7
  | .reduced3, false :: _ => .ok .rcidP0_3

/-- A Level-0 head (30_encoding.md R93). -/
def decodeL0 (c : Params) (d : Dir) (head : List Bool) : Except Reject Instr :=
  match takeField c.doc.l0TypeBits head with
  | some (t, rest) => .ok (l0Row c d t rest)
  | none => .error .shortHead

/-- A sub-burst mode (30_encoding.md R101). -/
def decodeMode (c : Params) (d : Dir) (head : List Bool) : Except Reject Instr :=
  match takeField 4 head with
  | some (n, _) => .ok (sbRow n ((match d with | .dl => c.maps.sbDl | .ul => c.maps.sbUl).lookup n))
  | none => .error .shortHead

/-- A wire structure from its first bits, under the given parameters. -/
def decodeWire (c : Params) (f : WireFormat) (head : List Bool) : Except Reject Instr :=
  match f with
  | .ie d => decodeL0 c d head
  | .compact => .ok .compactIe
  | .sb d => decodeMode c d head
  | .rcid t => decodeRcid t head
  | .trailer16 => .ok .trailer16
  | .trailer32 => .ok .trailer32

/-! ### Pseudo-operations (30_encoding.md R111) -/

/-- The width of a READ. -/
def readWidth : Instr → Option (BitVec 6)
  | .read w => some w
  | _ => none

/-- The pseudo-operation of one word: READN, SKIPN or REMN. -/
def pseudoOne : Instr → Except Reject Instr
  | .read w => if w.toNat % 4 = 0 then .ok (.readn (w.toNat / 4)) else .error .notAPseudo
  | .skip w => if w.toNat % 4 = 0 then .ok (.skipn (w.toNat / 4)) else .error .notAPseudo
  | .rem => .ok .remn
  | _ => .error .notAPseudo

/-- The pseudo-operation of two words: RD48 or RD64, two READs. -/
def pseudoTwo (i j : Instr) : Except Reject Instr :=
  match readWidth i, readWidth j with
  | some a, some b =>
    if a = 32 ∧ b = 16 then .ok .rd48 else if a = 32 ∧ b = 32 then .ok .rd64 else .error .notAPseudo
  | _, _ => .error .notAPseudo

/-- A pseudo-operation from the instructions its words decode to. -/
def pseudoOf : List Instr → Except Reject Instr
  | [i] => pseudoOne i
  | [i, j] => pseudoTwo i j
  | _ => .error .notAPseudo

/-- Every word decoded, or the first rejection. -/
def decodeAll : List CmdWord → Except Reject (List Instr)
  | [] => .ok []
  | w :: ws =>
    match decodeCmd w, decodeAll ws with
    | .ok i, .ok is => .ok (i :: is)
    | .error r, _ => .error r
    | .ok _, .error r => .error r

/-- A pseudo-operation from the command words it expands to. -/
def decodePseudo (ws : List CmdWord) : Except Reject Instr :=
  match decodeAll ws with
  | .ok is => pseudoOf is
  | .error r => .error r

/-- The decoder. -/
def decode (c : Params) : Code → Except Reject Instr
  | .cmd w => decodeCmd w
  | .wire f head => decodeWire c f head
  | .pseudo ws => decodePseudo ws

/-! ### The encoder, from the same tables -/

/-- A command word: `op << 32 | arg`. -/
def cmdWord (op : BitVec 4) (arg : BitVec 32) : CmdWord := op ++ arg

/-- Four bits, most significant first (00_scope.md R10). -/
def nib (v : Nat) : List Bool := [v.testBit 3, v.testBit 2, v.testBit 1, v.testBit 0]

/-- The head of a downlink Extended IE with sub-type `s` (30_encoding.md R96). -/
def extHead (s : Nat) : Code := .wire (.ie .dl) (nib 15 ++ nib s)

/-- The head of an Extended-2 IE with sub-type `s` (30_encoding.md R99). -/
def ext2Head (s : Nat) : Code := .wire (.ie .dl) (nib 14 ++ nib s)

/-- The Level-0 head of a code (30_encoding.md R93). -/
def l0Head (t : Nat) : Code := .wire (.ie .dl) (nib t)

/-- The mode field (30_encoding.md R101). -/
def sbHead (m : Nat) : Code := .wire (.sb .dl) (nib m)

/-- The code of an instruction: a command's word, a wire structure's head, a pseudo-operation's words. -/
def encode : Instr → Code
  | .init start => .cmd (cmdWord 0x0 start)
  | .read w => .cmd (cmdWord 0x1 (w.setWidth 32))
  | .skip w => .cmd (cmdWord 0x2 w)
  | .padn => .cmd (cmdWord 0x3 0)
  | .padb => .cmd (cmdWord 0x4 0)
  | .rem => .cmd (cmdWord 0x5 0)
  | .pushlim n => .cmd (cmdWord 0x6 n)
  | .poplim => .cmd (cmdWord 0x7 0)
  | .rcid => .cmd (cmdWord 0x8 0)
  | .crc16 => .cmd (cmdWord 0x9 0)
  | .crc32 => .cmd (cmdWord 0xA 0)
  | .verify16 => .cmd (cmdWord 0xB 0)
  | .verify32 => .cmd (cmdWord 0xC 0)
  | .ieDlLegacy => .cmd (cmdWord 0xD 0)
  | .ieUlLegacy => .cmd (cmdWord 0xD 1)
  | .ieDlCompact => .cmd (cmdWord 0xD 2)
  | .ieUlCompact => .cmd (cmdWord 0xD 3)
  | .msgDlMap => .cmd (cmdWord 0xE 0)
  | .msgUlMap => .cmd (cmdWord 0xE 1)
  | .msgCompactDlMap => .cmd (cmdWord 0xE 2)
  | .msgCompactUlMap => .cmd (cmdWord 0xE 3)
  | .msgRaasPrivateMap => .cmd (cmdWord 0xE 4)
  | .msgReservedKind5 hi => .cmd (cmdWord 0xE (hi ++ (5 : BitVec 3)))
  | .msgReservedKind6 hi => .cmd (cmdWord 0xE (hi ++ (6 : BitVec 3)))
  | .msgReservedKind7 hi => .cmd (cmdWord 0xE (hi ++ (7 : BitVec 3)))
  | .reserved arg => .cmd (cmdWord 0xF arg)
  | .regType0 => l0Head 0
  | .regType1 => l0Head 1
  | .regType2 => l0Head 2
  | .regType3 => l0Head 3
  | .regType4 => l0Head 4
  | .regType5 => l0Head 5
  | .regType6 => l0Head 6
  | .regType7 => l0Head 7
  | .regType8 => l0Head 8
  | .regType9 => l0Head 9
  | .regType10 => l0Head 10
  | .l0Unassigned11 => l0Head 11
  | .l0Unassigned12 => l0Head 12
  | .gapPapr => l0Head 13
  | .extended2 => l0Head 14
  | .extended => l0Head 15
  | .extendedUplink => .wire (.ie .ul) (nib 15)
  | .channelMeasurement => extHead 0
  | .stcZone => extHead 1
  | .aas => extHead 2
  | .dataLocationOtherBs => extHead 3
  | .cidSwitch => extHead 4
  | .mimoBasic => extHead 5
  | .mimoEnhanced => extHead 6
  | .harqMapPointer => extHead 7
  | .phyModifier => extHead 8
  | .unknownL1Code9 => extHead 9
  | .broadcastControlPointer => extHead 10
  | .puscBurstOtherSegment => extHead 11
  | .unknownL1Code12 => extHead 12
  | .unknownL1Code13 => extHead 13
  | .unknownL1Code14 => extHead 14
  | .interferenceNoiseLevel => extHead 15
  | .mbsMap => ext2Head 0
  | .handoverVariant1 => ext2Head 1
  | .handoverVariant2 => ext2Head 2
  | .handoverVariant3 => ext2Head 3
  | .unknownL2Code4 => ext2Head 4
  | .unknownL2Code5 => ext2Head 5
  | .skipIe => ext2Head 6
  | .harqMap => ext2Head 7
  | .harqAckBitmap => ext2Head 8
  | .enhancedDlMap => ext2Head 9
  | .unknownL2Code10 => ext2Head 10
  | .unknownL2Code11 => ext2Head 11
  | .unknownL2Code12 => ext2Head 12
  | .unknownL2Code13 => ext2Head 13
  | .aasSdma => ext2Head 14
  | .unknownL2Code15 => ext2Head 15
  | .sbChase => sbHead 0
  | .sbIrCtc => sbHead 1
  | .sbIrCc => sbHead 2
  | .sbMimoChase => sbHead 3
  | .sbMimoIr => sbHead 4
  | .sbMimoIrCc => sbHead 5
  | .sbMimoStc => sbHead 6
  | .unknownSbMode7 => sbHead 7
  | .unknownSbMode8 => sbHead 8
  | .unknownSbMode9 => sbHead 9
  | .unknownSbMode10 => sbHead 10
  | .unknownSbMode11 => sbHead 11
  | .unknownSbMode12 => sbHead 12
  | .unknownSbMode13 => sbHead 13
  | .unknownSbMode14 => sbHead 14
  | .unknownSbMode15 => sbHead 15
  | .rcidN16 => .wire (.rcid .normal16) []
  | .rcidP1 => .wire (.rcid .reduced7) [true]
  | .rcidP0_11 => .wire (.rcid .reduced11) [false]
  | .rcidP0_7 => .wire (.rcid .reduced7) [false]
  | .rcidP0_3 => .wire (.rcid .reduced3) [false]
  | .trailer16 => .wire .trailer16 []
  | .trailer32 => .wire .trailer32 []
  | .compactIe => .wire .compact []
  | .rd48 => .pseudo [cmdWord 0x1 32, cmdWord 0x1 16]
  | .rd64 => .pseudo [cmdWord 0x1 32, cmdWord 0x1 32]
  | .readn k => .pseudo [cmdWord 0x1 ((BitVec.ofNat 6 (4 * k)).setWidth 32)]
  | .skipn k => .pseudo [cmdWord 0x2 (BitVec.ofNat 32 (4 * k))]
  | .remn => .pseudo [cmdWord 0x5 0]

/-! ### The table's own numbering -/

/-- The bits of a byte in wire order (00_scope.md R7). -/
def byteBits (b : Nat) : List Bool := nib (b / 16 % 16) ++ nib (b % 16)

/-- The instruction the decoder reads from `w`, numbered as the table numbers it. Words of more than 32 bits are command
words (36 bits); 9 to 32 bits are the first bytes of a downlink legacy IE; 8 bits are a Reduced-CID field under
`cid_type` = Reduced7, the only 8-bit structure of the table that has an encoding of its own (log 20). -/
def decodeTableWord (nbits w : Nat) : Option Instr :=
  let code : Code :=
    if nbits ≤ 8 then .wire (.rcid .reduced7) (byteBits (w % 256))
    else if nbits ≤ 32 then .wire (.ie .dl) (byteBits (w % 256))
    else .cmd (BitVec.ofNat 36 w)
  if w < 2 ^ 36 then (decode Params.default code).toOption else none

end Sys2Proof
end

