-- ==== Sys2Proof/Machine/State.lean ====
section
/-! DEFINITION. The state of the block as plain data, why a run can end, and the state after power-on reset. -/

namespace Sys2Proof.Machine

/-- The Byte Buffer as a list of (byte address, byte): addresses rise strictly and no listed byte is 0, the value an
unlisted address reads as (a representation of bytes the host has all supplied; log 14). -/
abbrev Memory := List Host.Cell

/-- `STATE`, the state of the packet-format state machine (10_state.md R43). -/
inductive SeqState
  | idle | msgHdr | ieType | ieCidList | ieRegBody | ieXhdr | ieBody | ieSkip | sbMode | sbLoop | sbCrc | msgPad
  | msgCrc | done | stopped
  deriving DecidableEq, Repr

/-- A field record `(id, off, len, val)` of `OUT`; `val` is absent for a byte-string record (10_state.md R45). -/
structure OutRec where
  id : FieldId
  off : Nat
  len : Nat
  val : Option Nat
  deriving DecidableEq, Repr

/-- A warning record `(kind, off, info)` of `WARN` (10_state.md R46). -/
structure WarnRec where
  kind : WarnKind
  off : Nat
  info : Nat
  deriving DecidableEq, Repr

/-- What the command port answered to the last command (00_scope.md R13, 60_exceptions.md R280): no command yet, an end
without a value, a number, the pair of RCID, the pass or fail of VERIFY, or an error with its position. -/
inductive Response
  | none | done | value (v : Nat) | cid (cid width : Nat) | flag (b : Bool) | error (e : ErrKind) (p : Nat)
  deriving DecidableEq, Repr

/-- The inputs the host holds constant over a decode call (10_state.md R39 to R42, 45_message_decoders.md R261):
`LEN` of the buffer in place, the `START` that accompanies MSG, `MSG_LEN_BITS`, `cqich_id_width`,
`include_cor2_changes`. -/
structure Inputs where
  len : Nat
  start : Nat
  msgLenBits : Nat
  cqichIdWidth : BitVec 4
  includeCor2Changes : Bool
  deriving DecidableEq, Repr

/-- What accompanies an INIT or MSG command: the buffer and the inputs (30_encoding.md R91, 70_reset_and_hazards.md
R312), and the `alt_format` samples the host fixes in advance (10_state.md R41). -/
structure Accompaniment where
  bytes : List Byte
  start : Nat
  msgLenBits : Nat
  cqichIdWidth : BitVec 4
  includeCor2Changes : Bool
  altSamples : List Bool
  deriving DecidableEq, Repr

/-- A unit of the wire format that the model's host may ask to have decoded alone (log 3). -/
inductive WireUnit
  | ie (d : Dir) | compact (d : Dir) | sb (d : Dir) | rcid | trailer16 | trailer32
  deriving DecidableEq, Repr

/-- What the host has put before the block: a command word with what accompanies it (30_encoding.md R91), the words of
a pseudo-operation (R111), or one wire structure to decode at POS (log 1, log 3). -/
inductive Request
  | command (w : CmdWord) (acc : Option Accompaniment)
  | pseudo (ws : List CmdWord)
  | wire (u : WireUnit)
  deriving DecidableEq, Repr

/-- The machine. Each field's rule, width and reset value stand in INVENTORY.md under State. -/
structure State where
  mem : Memory
  len : Nat
  start : Nat
  pos : Nat
  limstk : List Nat
  msgStartByte : Nat
  acc16 : BitVec 16
  acc32 : BitVec 32
  session : Session
  dir : Dir
  family : Family
  msgKind : MsgKind
  inp : Inputs
  altSamples : List Bool
  state : SeqState
  err : BitVec 3
  errPos : Nat
  consumed : Nat
  wCrc : Bool
  wLen : Bool
  wUnk : Bool
  out : List OutRec
  warn : List WarnRec
  cfg : Params
  result : Response
  port : List Request
  draws : Nat
  deriving DecidableEq, Repr

/-- The model's one fault. -/
inductive Fault
  /-- A checksum span would take in a byte that the buffer does not have (20_memory.md R61). Raised by the checksum
  operations only, and only in a state with POS > TOTAL, which no run reaches (10_state.md R21). Safe: the model stops
  where the spec says such an access does not happen (log 14). -/
  | outsideBuffer
  deriving DecidableEq, Repr

/-- Why a request has no next state (60_exceptions.md R287). All are safe: the spec itself gives no next state, except
`hookContract` and `notAPseudo`, which stop where the model's own additions are misused (log 1, log 18). -/
inductive Refusal
  /-- An instruction with no meaning yet; raised by the dispatch only. -/
  | notModelled (mnemonic : String)
  /-- READ of more than READ_MAX_BITS bits (40_bit_cursor.md R121); raised by READ, READN and any field whose width is a
  parameter above that. -/
  | invalidWidth
  /-- INIT or MSG with LEN > MAX_LEN_BYTES or start > 8*LEN (40_bit_cursor.md R120). -/
  | badInit
  /-- PUSHLIM with LIM_DEPTH limits already on the stack (40_bit_cursor.md R126). -/
  | limitOverflow
  /-- POPLIM with an empty stack (40_bit_cursor.md R127). -/
  | limitUnderflow
  /-- Command operation 0xF (30_encoding.md R107). -/
  | reservedOp
  /-- Must-be-zero bits that are not zero, or a message kind above 4 (30_encoding.md R92). -/
  | badArgument
  /-- IE or MSG with cqich_id_width above 9 (10_state.md R39). -/
  | badConfig
  /-- The Compact family without COMPACT_MAP (42_ie_dispatch.md R213). -/
  | noCompactMap
  /-- A rule that depends on an OPEN parameter which was not supplied (60_exceptions.md R287). -/
  | noParameter (p : OpenParam)
  /-- A body hook that breaks its contract: a turn of a loop that consumes nothing, a PRE hook without an RCID, a
  write of a session field its kind may not write (log 27), a record of bits not passed or out of wire order, or hooks
  that call one another without end (42_ie_dispatch.md R180, 93_implementation_defined.md U13; log 18). -/
  | hookContract
  /-- Command words that are no pseudo-operation's expansion were given as one (30_encoding.md R111; log 1). -/
  | notAPseudo
  deriving DecidableEq, Repr

/-- The machine after power-on reset (10_state.md R50, 70_reset_and_hazards.md R310): registers 0 or empty, the session
at `SESSION_INIT`, STATE = IDLE. What R50 leaves unspecified has the value its log entry names (log 8, 9); the
configuration is the defaults of 00_scope.md R6 (log 4). -/
def State.reset : State :=
  { mem := [], len := 0, start := 0, pos := 0, limstk := [], msgStartByte := 0, acc16 := 0, acc32 := 0
    session := Params.default.sessionInit, dir := .dl, family := .legacy, msgKind := .dlMap
    inp := { len := 0, start := 0, msgLenBits := 0, cqichIdWidth := 0, includeCor2Changes := false }
    altSamples := [], state := .idle, err := 0, errPos := 0, consumed := 0, wCrc := false, wLen := false, wUnk := false
    out := [], warn := [], cfg := Params.default, result := .none, port := [], draws := 0 }

end Sys2Proof.Machine
end

