-- ==== Sys2Proof/Machine/Ops.lean ====
section
/-! DEFINITION. The shared operations: the buffer, the cursor and its limits, records, the end of an operation.

A sub-step is a `D α`: it runs on the state and ends ok with a value, or stops with the state as it then stands
(60_exceptions.md R280: state written before a `raise` stays written). -/

namespace Sys2Proof.Machine

/-! ### The Byte Buffer (00_scope.md R7 to R9, 20_memory.md R60 to R65) -/

/-- The byte at an address; an unlisted address reads as 0 (log 14). -/
def readByte : Memory → Nat → Byte
  | [], _ => 0
  | (b, v) :: m, a => if a = b then v else readByte m a

/-- `BufBit(p)` (00_scope.md R8). -/
def bufBit (m : Memory) (p : Nat) : Nat := ((readByte m (p / 8)).toNat >>> (7 - p % 8)) % 2

/-- `MemRead(p, w)`: the first bit on the wire is the most significant (00_scope.md R9). -/
def memRead (m : Memory) (p : Nat) : Nat → Nat
  | 0 => 0
  | w + 1 => 2 * memRead m p w + bufBit m (p + w)

/-- The canonical form: addresses from `lo` on rise strictly and no listed byte is 0. -/
def memWfFrom (lo : Nat) : Memory → Bool
  | [] => true
  | (a, v) :: m => decide (lo ≤ a) && decide (v ≠ 0) && memWfFrom (a + 1) m

/-- The memory is in its one canonical form. -/
def memWf (m : Memory) : Bool := memWfFrom 0 m

/-- A buffer of the given bytes from address `base` on, in canonical form. -/
def ofBytes (base : Nat) : List Byte → Memory
  | [] => []
  | v :: vs => if v = 0 then ofBytes (base + 1) vs else (base, v) :: ofBytes (base + 1) vs

/-! ### Views of the cursor registers (10_state.md R20 to R24) -/

/-- `TOTAL = 8*LEN` (10_state.md R20). -/
def State.total (s : State) : Nat := 8 * s.len

/-- `EB`, the effective bound (10_state.md R24). -/
def State.effBound (s : State) : Nat :=
  match s.limstk with
  | [] => s.total
  | t :: _ => min s.total t

/-- `REM = EB - POS` (10_state.md R24, 40_bit_cursor.md R125). -/
def State.rem (s : State) : Nat := s.effBound - s.pos

/-- `DREM`, the declared remainder; with no limit it is `TOTAL - POS` (10_state.md R24). -/
def State.drem (s : State) : Nat :=
  match s.limstk with
  | [] => s.total - s.pos
  | t :: _ => t - s.pos

/-! ### Updates -/

def State.setPos (s : State) (p : Nat) : State := { s with pos := p }
def State.setLimstk (s : State) (l : List Nat) : State := { s with limstk := l }
def State.setSeq (s : State) (q : SeqState) : State := { s with state := q }
def State.setResult (s : State) (r : Response) : State := { s with result := r }
def State.setSession (s : State) (x : Session) : State := { s with session := x }
def State.setAcc16 (s : State) (v : BitVec 16) : State := { s with acc16 := v }
def State.setAcc32 (s : State) (v : BitVec 32) : State := { s with acc32 := v }
def State.setDraws (s : State) (n : Nat) : State := { s with draws := n }
def State.setAlt (s : State) (l : List Bool) : State := { s with altSamples := l }
def State.setMsgStart (s : State) (b : Nat) : State := { s with msgStartByte := b }

/-- `Emit` (00_scope.md R12, 10_state.md R45): appends a field record. -/
def State.emit (s : State) (r : OutRec) : State := { s with out := s.out ++ [r] }

/-- The inputs of an IE or MSG command (10_state.md R42). -/
def State.setRoute (s : State) (d : Dir) (f : Family) : State := { s with dir := d, family := f }

/-- An IE command starts: `STATE <- IE_TYPE ; ERR <- 0 ; ERR_POS <- 0` (42_ie_dispatch.md R160). -/
def State.startIe (s : State) : State := { s with state := .ieType, err := 0, errPos := 0 }

/-- INIT (40_bit_cursor.md R120): loads the cursor registers from the buffer in place and clears status and outputs. -/
def State.initCall (s : State) (start : Nat) : State :=
  { s with
    len := s.inp.len, start := start, pos := start, limstk := [], msgStartByte := start / 8
    out := [], warn := [], wCrc := false, wLen := false, wUnk := false
    err := 0, errPos := 0, consumed := 0, state := .idle }

/-- The host's buffer and inputs come into place (30_encoding.md R91, 70_reset_and_hazards.md R312). -/
def State.accept (s : State) (a : Accompaniment) : State :=
  { s with
    mem := ofBytes 0 a.bytes
    inp :=
      { len := a.bytes.length, start := a.start, msgLenBits := a.msgLenBits, cqichIdWidth := a.cqichIdWidth
        includeCor2Changes := a.includeCor2Changes }
    altSamples := a.altSamples }

/-! ### The end of an IE or MSG operation -/

/-- The codes of `ERR` (60_exceptions.md R281). -/
def errCode : ErrKind → BitVec 3
  | .truncated => 1
  | .unknownVariant => 2
  | .inconsistentLength => 4

/-- The stop, the block's trap entry (60_exceptions.md R284): `STATE <- STOPPED ; ERR <- code(E) ; ERR_POS <- p ;
CONSUMED <- POS - START`, and nothing else; the port answers with the error. -/
def State.stop (s : State) (e : ErrKind) (p : Nat) : State :=
  { s with state := .stopped, err := errCode e, errPos := p, consumed := s.pos - s.start, result := .error e p }

/-- The normal end: `STATE <- DONE ; CONSUMED <- POS - START` (42_ie_dispatch.md R160, 45_message_decoders.md R261).
There is no return from the stop (60_exceptions.md R288). -/
def State.finish (s : State) : State :=
  { s with state := .done, consumed := s.pos - s.start, result := .done }

/-! ### Sub-steps -/

/-- How a sub-step stops: an error with its position, a refusal, a fault. -/
inductive Stop
  | raised (e : ErrKind) (p : Nat)
  | refused (r : Refusal)
  | faulted (f : Fault)
  deriving DecidableEq, Repr

/-- A sub-step. -/
abbrev D := EStateM Stop State

/-- The state as it stands. -/
def getS : D State := fun s => .ok s s

/-- An update of the state. -/
def modS (f : State → State) : D Unit := fun s => .ok () (f s)

/-- `raise E(POS)` (60_exceptions.md R280): the position is the value of POS when the check failed. -/
def raise {α : Type} (e : ErrKind) : D α := fun s => .error (.raised e s.pos) s

/-- `refuse(reason)` (60_exceptions.md R287). -/
def refuse {α : Type} (r : Refusal) : D α := fun s => .error (.refused r) s

/-- POS as it stands. -/
def getPos : D Nat := fun s => .ok s.pos s

/-- `STATE <- q`. -/
def setSeq (q : SeqState) : D Unit := modS fun s => s.setSeq q

/-- `n` turns of a step that carries a value. -/
def loopD {α : Type} (f : α → D α) : Nat → α → D α
  | 0, a => pure a
  | n + 1, a => do
    let b ← f a
    loopD f n b

/-- A step taken only under a condition. -/
def whenD (c : Bool) (x : D Unit) : D Unit := if c then x else pure ()

/-- A command of the cursor, RCID or checksum group issued by the host: its error is its result, and `STATE`, `ERR`,
`ERR_POS` are not written (60_exceptions.md R280, 10_state.md R44). -/
def unitOp (x : D Response) (s : State) : Host.Outcome State Fault Refusal :=
  match x s with
  | .ok r t => .next (t.setResult r)
  | .error (.raised e p) t => .next (t.setResult (.error e p))
  | .error (.refused r) _ => .refused r
  | .error (.faulted f) _ => .fault f

/-- An IE or MSG operation: its error becomes the stop (60_exceptions.md R280, R284). -/
def callOp (x : D Unit) (s : State) : Host.Outcome State Fault Refusal :=
  match x s with
  | .ok _ t => .next t.finish
  | .error (.raised e p) t => .next (t.stop e p)
  | .error (.refused r) _ => .refused r
  | .error (.faulted f) _ => .fault f

/-! ### The Bit Cursor's operations (40_bit_cursor.md) -/

/-- The cursor moves by `w` bits, or raises Truncated and changes nothing (40_bit_cursor.md R133, R128). -/
def moveBits (w : Nat) : D Unit := fun s =>
  if s.effBound < s.pos + w then .error (.raised .truncated s.pos) s else .ok () (s.setPos (s.pos + w))

/-- READ w (40_bit_cursor.md R121). -/
def readBits (w : Nat) : D Nat := fun s =>
  if s.cfg.doc.readMaxBits < w then .error (.refused .invalidWidth) s
  else if s.effBound < s.pos + w then .error (.raised .truncated s.pos) s
  else .ok (memRead s.mem s.pos w) (s.setPos (s.pos + w))

/-- SKIP w (40_bit_cursor.md R122). -/
def skipBits (w : Nat) : D Unit := moveBits w

/-- How far POS lies before the next multiple of `n` (40_bit_cursor.md R123, R124). -/
def padAmount (n p : Nat) : Nat := (n - p % n) % n

/-- PADN (40_bit_cursor.md R123). -/
def padNibble : D Unit := fun s => moveBits (padAmount 4 s.pos) s

/-- PADB (40_bit_cursor.md R124). -/
def padByte : D Unit := fun s => moveBits (padAmount 8 s.pos) s

/-- PUSHLIM n (40_bit_cursor.md R126): the depth is checked first (60_exceptions.md R285), then the parent's limit. -/
def pushLimit (n : Nat) : D Unit := fun s =>
  if s.cfg.doc.limDepth ≤ s.limstk.length then .error (.refused .limitOverflow) s
  else
    match s.limstk with
    | [] => .ok () (s.setLimstk [s.pos + n])
    | t :: l =>
      if t < s.pos + n then .error (.raised .inconsistentLength s.pos) s
      else .ok () (s.setLimstk ((s.pos + n) :: t :: l))

/-- POPLIM (40_bit_cursor.md R127). -/
def popLimit : D Unit := fun s =>
  match s.limstk with
  | [] => .error (.refused .limitUnderflow) s
  | _ :: l => .ok () (s.setLimstk l)

/-- The buffer in place is longer than `MAX_LEN_BYTES`; a parameter not supplied bounds nothing (log 11). -/
def State.tooLong (s : State) : Bool :=
  match s.cfg.maxLenBytes with
  | some m => decide (m < s.inp.len)
  | none => false

/-- INIT start (40_bit_cursor.md R120). -/
def initCursor (start : Nat) : D Unit := fun s =>
  if s.tooLong = true ∨ 8 * s.inp.len < start then .error (.refused .badInit) s else .ok () (s.initCall start)

/-- `Emit` as a sub-step. -/
def emitRec (id : FieldId) (off len : Nat) (val : Option Nat) : D Unit :=
  modS fun s => s.emit { id := id, off := off, len := len, val := val }

/-- The session is replaced. -/
def modSession (f : Session → Session) : D Unit := modS fun s => s.setSession (f s.session)

/-- One free value: the constant applied to the number of draws so far, which goes up by one (log 7). -/
def draw {α : Type} (free : Nat → α) : D α := fun s => .ok (free s.draws) (s.setDraws (s.draws + 1))

end Sys2Proof.Machine
end

