-- ==== Sys2Proof/Machine/Flags.lean ====
section
/-! DEFINITION. The sticky flags `W_CRC`, `W_LEN`, `W_UNK` (10_state.md R47): a warning record sets the flag of its
kind, and nothing but INIT and MSG clears one. -/

namespace Sys2Proof.Machine

/-- `Warn(kind, off, info)`: the record is appended and its flag set (10_state.md R46, R47, 60_exceptions.md R282). -/
def State.addWarn (s : State) (w : WarnRec) : State :=
  { s with
    warn := s.warn ++ [w]
    wCrc := s.wCrc || decide (w.kind = .checksumMismatch)
    wLen := s.wLen || decide (w.kind = .lengthConsistency)
    wUnk := s.wUnk || decide (w.kind = .unknownVariant) }

/-- `Warn` as a sub-step. -/
def warnRec (k : WarnKind) (off info : Nat) : D Unit :=
  modS fun s => s.addWarn { kind := k, off := off, info := info }

end Sys2Proof.Machine
end

