-- ==== Sys2Proof/Machine/Operands.lean ====
section
/-! DEFINITION. How an operand is taken from the wire, from an input or from a parameter. -/

namespace Sys2Proof.Machine

/-! ### Fields on the wire -/

/-- A field of `w` bits read and emitted: `o <- POS ; v <- READ(w) ; Emit(id, o, w, v)`. -/
def readField (id : FieldId) (w : Nat) : D Nat := do
  let o ← getPos
  let v ← readBits w
  emitRec id o w (some v)
  pure v

/-- A stretch of bits passed over and emitted as a byte string: `o <- POS ; SKIP(n) ; Emit(id, o, n, absent)`. -/
def skipField (id : FieldId) (n : Nat) : D Unit := do
  let o ← getPos
  skipBits n
  emitRec id o n none

/-- Two READs in wire order, the first the more significant: `hi ++ lo` (30_encoding.md R106, 40_bit_cursor.md R129,
R130). Not atomic. -/
def readTwo (wHi wLo : Nat) : D Nat := do
  let hi ← readBits wHi
  let lo ← readBits wLo
  pure (hi * 2 ^ wLo + lo)

/-! ### Connection identifiers (41_reduced_cid.md R150 to R153, 30_encoding.md R102) -/

/-- Form N16. -/
def rcidNormal16 : D (Nat × Nat) := do
  let c ← readBits 16
  pure (c, 16)

/-- What follows a prefix bit: `n` bits of identifier, `n + 1` in all. -/
def rcidAfterPrefix (n : Nat) : D (Nat × Nat) := do
  let c ← readBits n
  pure (c, n + 1)

/-- A form with a prefix bit and `n` bits of identifier. -/
def rcidPrefixed (n : Nat) : D (Nat × Nat) := do
  let _ ← readBits 1
  rcidAfterPrefix n

/-- How many bits follow the prefix: 11 under prefix 1 whatever `cid_type` is (41_reduced_cid.md R151, R152). -/
def rcidBits (t : CidType) (pre : Nat) : Nat :=
  if pre = 1 then 11
  else
    match t with
    | .normal16 => 16
    | .reduced11 => 11
    | .reduced7 => 7
    | .reduced3 => 3

/-- RCID (41_reduced_cid.md R150): the identifier and the number of bits consumed. -/
def rcidOp : D (Nat × Nat) := do
  let s ← getS
  if s.session.cidType = .normal16 then rcidNormal16
  else do
    let pre ← readBits 1
    rcidAfterPrefix (rcidBits s.session.cidType pre)

/-- RCID by a caller that emits the `CID` record (41_reduced_cid.md R150). -/
def rcidField : D (Nat × Nat) := do
  let o ← getPos
  let c ← rcidOp
  emitRec .cid o c.2 (some c.1)
  pure c

/-! ### Inputs -/

/-- One sample of `alt_format`: the next one the host has fixed, else a free value (10_state.md R41; log 6). -/
def sampleAlt : D Bool := fun s =>
  match s.altSamples with
  | b :: l => .ok b (s.setAlt l)
  | [] => .ok (Config.freeAltFormat s.draws) (s.setDraws (s.draws + 1))

/-! ### Parameters -/

/-- An OPEN parameter, or NoParameter (60_exceptions.md R287, 93_implementation_defined.md U8). -/
def needParam {α : Type} (v : Option α) (p : OpenParam) : D α := fun s =>
  match v with
  | some a => .ok a s
  | none => .error (.refused (.noParameter p)) s

/-- The kind a sub-type selects at a level, `none` for Unknown (30_encoding.md R98, R100). -/
def kindOf (lvl : Level) (d : Dir) (sub : Nat) : D (Option IeKind) := do
  let s ← getS
  match lvl, d with
  | .one, .dl => pure ((s.cfg.maps.l1Dl.lookup sub).map .l1)
  | .one, .ul => do
    let m ← needParam s.cfg.maps.l1Ul .l1MapUl
    pure ((m.lookup sub).map .l1)
  | .two, .dl => pure ((s.cfg.maps.l2Dl.lookup sub).map .l2)
  | .two, .ul => do
    let m ← needParam s.cfg.maps.l2Ul .l2MapUl
    pure ((m.lookup sub).map .l2)

/-- The layout a sub-burst mode selects, `none` for Unknown (30_encoding.md R101, 43_sub_burst.md R222). -/
def layoutOf (d : Dir) (mode : Nat) : D (Option Layout) := do
  let s ← getS
  pure ((match d with | .dl => s.cfg.maps.sbDl | .ul => s.cfg.maps.sbUl).lookup mode)

/-- The width of a declared length field (30_encoding.md R96, R97, R99). -/
def lenWidth (lvl : Level) (d : Dir) : D Nat := do
  let s ← getS
  match lvl, d with
  | .two, _ => pure s.cfg.doc.l2LenBits
  | .one, .dl => pure s.cfg.doc.l1LenBitsDl
  | .one, .ul => needParam s.cfg.l1LenBitsUl .l1LenBitsUl

/-- `cid_type` of a code (10_state.md R30). -/
def cidTypeOf (c : BitVec 2) : CidType :=
  match c.toNat with
  | 0 => .normal16
  | 1 => .reduced11
  | 2 => .reduced7
  | _ => .reduced3

/-- The code of `cid_type` (10_state.md R30). -/
def cidTypeCode : CidType → Nat
  | .normal16 => 0
  | .reduced11 => 1
  | .reduced7 => 2
  | .reduced3 => 3

/-- `harq_mode` of a code (10_state.md R30). -/
def harqModeOf (b : Bool) : HarqMode := if b then .shortenedDiuc else .legacyPerConnection

/-- The code of `harq_mode` (10_state.md R30). -/
def harqModeCode : HarqMode → Nat
  | .legacyPerConnection => 0
  | .shortenedDiuc => 1

end Sys2Proof.Machine
end

