-- ==== Sys2Proof/Machine/Cursor.lean ====
section
/-! DEFINITION. The meanings of the Bit Cursor's commands (40_bit_cursor.md), of RCID and its wire forms
(41_reduced_cid.md), of the pseudo-operations (30_encoding.md R111), and of the commands the port reserves (R92). -/

namespace Sys2Proof.Machine

/-- INIT start (40_bit_cursor.md R120). -/
def execInit (start : BitVec 32) (s : State) : Host.Outcome State Fault Refusal :=
  unitOp (do initCursor start.toNat; pure .done) s

/-- READ w (40_bit_cursor.md R121). -/
def execRead (w : BitVec 6) (s : State) : Host.Outcome State Fault Refusal :=
  unitOp (do let v ← readBits w.toNat; pure (.value v)) s

/-- SKIP w (40_bit_cursor.md R122). -/
def execSkip (w : BitVec 32) (s : State) : Host.Outcome State Fault Refusal :=
  unitOp (do skipBits w.toNat; pure .done) s

/-- PADN (40_bit_cursor.md R123). -/
def execPadn (s : State) : Host.Outcome State Fault Refusal := unitOp (do padNibble; pure .done) s

/-- PADB (40_bit_cursor.md R124). -/
def execPadb (s : State) : Host.Outcome State Fault Refusal := unitOp (do padByte; pure .done) s

/-- REM (40_bit_cursor.md R125). -/
def execRem (s : State) : Host.Outcome State Fault Refusal := unitOp (do let s ← getS; pure (.value s.rem)) s

/-- PUSHLIM n (40_bit_cursor.md R126). -/
def execPushlim (n : BitVec 32) (s : State) : Host.Outcome State Fault Refusal :=
  unitOp (do pushLimit n.toNat; pure .done) s

/-- POPLIM (40_bit_cursor.md R127). -/
def execPoplim (s : State) : Host.Outcome State Fault Refusal := unitOp (do popLimit; pure .done) s

/-- RCID (41_reduced_cid.md R150). -/
def execRcid (s : State) : Host.Outcome State Fault Refusal :=
  unitOp (do let c ← rcidOp; pure (.cid c.1 c.2)) s

/-! ### The five RCID forms on the wire (30_encoding.md R102; log 2) -/

/-- Form N16. -/
def execRcidN16 (s : State) : Host.Outcome State Fault Refusal :=
  unitOp (do let c ← rcidNormal16; pure (.cid c.1 c.2)) s

/-- Form P1, the prefix override (41_reduced_cid.md R152). -/
def execRcidP1 (s : State) : Host.Outcome State Fault Refusal :=
  unitOp (do let c ← rcidPrefixed 11; pure (.cid c.1 c.2)) s

/-- Form P0_11. -/
def execRcidP0_11 (s : State) : Host.Outcome State Fault Refusal :=
  unitOp (do let c ← rcidPrefixed 11; pure (.cid c.1 c.2)) s

/-- Form P0_7. -/
def execRcidP0_7 (s : State) : Host.Outcome State Fault Refusal :=
  unitOp (do let c ← rcidPrefixed 7; pure (.cid c.1 c.2)) s

/-- Form P0_3. -/
def execRcidP0_3 (s : State) : Host.Outcome State Fault Refusal :=
  unitOp (do let c ← rcidPrefixed 3; pure (.cid c.1 c.2)) s

/-! ### Pseudo-operations -/

/-- RD48 = READ 32 ; READ 16 (40_bit_cursor.md R129). -/
def execRd48 (s : State) : Host.Outcome State Fault Refusal :=
  unitOp (do let v ← readTwo 32 16; pure (.value v)) s

/-- RD64 = READ 32 ; READ 32 (40_bit_cursor.md R130). -/
def execRd64 (s : State) : Host.Outcome State Fault Refusal :=
  unitOp (do let v ← readTwo 32 32; pure (.value v)) s

/-- READN k = READ 4*k (40_bit_cursor.md R131). -/
def execReadn (k : Nat) (s : State) : Host.Outcome State Fault Refusal :=
  unitOp (do let v ← readBits (4 * k); pure (.value v)) s

/-- SKIPN k = SKIP 4*k (40_bit_cursor.md R131). -/
def execSkipn (k : Nat) (s : State) : Host.Outcome State Fault Refusal :=
  unitOp (do skipBits (4 * k); pure .done) s

/-- REMN = REM div 4 (40_bit_cursor.md R131). -/
def execRemn (s : State) : Host.Outcome State Fault Refusal :=
  unitOp (do let s ← getS; pure (.value (s.rem / 4))) s

/-! ### Reserved commands (30_encoding.md R92, R107) -/

/-- MSG with msg_kind 5 is refused, BadArgument (30_encoding.md R92). -/
def execMsgReservedKind5 (_hi : BitVec 29) (s : State) : Host.Outcome State Fault Refusal :=
  unitOp (refuse .badArgument) s

/-- MSG with msg_kind 6 is refused, BadArgument (30_encoding.md R92). -/
def execMsgReservedKind6 (_hi : BitVec 29) (s : State) : Host.Outcome State Fault Refusal :=
  unitOp (refuse .badArgument) s

/-- MSG with msg_kind 7 is refused, BadArgument (30_encoding.md R92). -/
def execMsgReservedKind7 (_hi : BitVec 29) (s : State) : Host.Outcome State Fault Refusal :=
  unitOp (refuse .badArgument) s

/-- Command operation 0xF is refused, ReservedOp (30_encoding.md R107). -/
def execReserved (_arg : BitVec 32) (s : State) : Host.Outcome State Fault Refusal :=
  unitOp (refuse .reservedOp) s

end Sys2Proof.Machine
end

