-- ==== Sys2Proof/Machine/Checksum.lean ====
section
/-! DEFINITION. The Checksum Validator (44_checksum.md): tables, functions, span, and the meanings of CRC16, CRC32,
VERIFY16, VERIFY32 and of the two trailers. -/

namespace Sys2Proof.Machine

/-- `f` applied eight times. -/
def eightTimes {α : Type} (f : α → α) (a : α) : α := f (f (f (f (f (f (f (f a)))))))

/-- One bit step of the CRC-32 table; the reflected one takes the polynomial's bits in reverse order (44_checksum.md
R240). -/
def crc32Bit (poly : BitVec 32) (reflect : Bool) (c : BitVec 32) : BitVec 32 :=
  if reflect then (if c.getLsbD 0 then (c >>> 1) ^^^ poly.reverse else c >>> 1)
  else (if c.getLsbD 31 then (c <<< 1) ^^^ poly else c <<< 1)

/-- `T32[i]` (44_checksum.md R240). -/
def t32 (poly : BitVec 32) (reflect : Bool) (i : BitVec 8) : BitVec 32 :=
  eightTimes (crc32Bit poly reflect) (if reflect then i.setWidth 32 else i.setWidth 32 <<< 24)

/-- One bit step of the CRC-16 table, as `crc32Bit` (44_checksum.md R242). -/
def crc16Bit (poly : BitVec 16) (reflect : Bool) (c : BitVec 16) : BitVec 16 :=
  if reflect then (if c.getLsbD 0 then (c >>> 1) ^^^ poly.reverse else c >>> 1)
  else (if c.getLsbD 15 then (c <<< 1) ^^^ poly else c <<< 1)

/-- `T16[i]` (44_checksum.md R242). -/
def t16 (poly : BitVec 16) (reflect : Bool) (i : BitVec 8) : BitVec 16 :=
  eightTimes (crc16Bit poly reflect) (if reflect then i.setWidth 16 else i.setWidth 16 <<< 8)

/-- One byte of CRC-32 (44_checksum.md R241). -/
def crc32Byte (poly : BitVec 32) (reflect : Bool) (acc : BitVec 32) (d : Byte) : BitVec 32 :=
  if reflect then (acc >>> 8) ^^^ t32 poly reflect (acc.setWidth 8 ^^^ d)
  else (acc <<< 8) ^^^ t32 poly reflect ((acc >>> 24).setWidth 8 ^^^ d)

/-- One byte of CRC-16 (44_checksum.md R243). -/
def crc16Byte (poly : BitVec 16) (reflect : Bool) (acc : BitVec 16) (d : Byte) : BitVec 16 :=
  if reflect then (acc >>> 8) ^^^ t16 poly reflect (acc.setWidth 8 ^^^ d)
  else (acc <<< 8) ^^^ t16 poly reflect ((acc >>> 8).setWidth 8 ^^^ d)

/-- `ACC32` after the bytes, before the final inversion (44_checksum.md R241). -/
def crc32Acc (poly : BitVec 32) (reflect : Bool) (ds : List Byte) : BitVec 32 := ds.foldl (crc32Byte poly reflect) 0xFFFFFFFF

/-- `ACC16` after the bytes, before the final inversion (44_checksum.md R243). -/
def crc16Acc (poly : BitVec 16) (reflect : Bool) (ds : List Byte) : BitVec 16 := ds.foldl (crc16Byte poly reflect) 0xFFFF

/-- `crc32(bytes)` (44_checksum.md R241). -/
def crc32 (poly : BitVec 32) (reflect : Bool) (ds : List Byte) : BitVec 32 := ~~~ crc32Acc poly reflect ds

/-- `crc16(bytes)` (44_checksum.md R243). -/
def crc16 (poly : BitVec 16) (reflect : Bool) (ds : List Byte) : BitVec 16 := crc16Acc poly reflect ds ^^^ 0xFFFF

/-- `CRC16_REFLECT`, a free constant where it was not supplied (00_scope.md R6; log 10). -/
def State.crc16Reflect (s : State) : Bool := s.cfg.crc16Reflect.getD Config.freeCrc16Reflect

/-- The bytes of a checksum's span: `MSG_START_BYTE` to `POS div 8 - 1` (44_checksum.md R246). -/
def State.spanBytes (s : State) : List Byte :=
  (List.range' s.msgStartByte (s.pos / 8 - s.msgStartByte)).map (readByte s.mem)

/-- The span, or the fault where it would leave the buffer (20_memory.md R61; log 14). -/
def checksumSpan : D (List Byte) := fun s =>
  if s.msgStartByte < s.pos / 8 ∧ s.len < s.pos / 8 then .error (.faulted .outsideBuffer) s else .ok s.spanBytes s

/-- `crc16(span)`, through `ACC16` (44_checksum.md R243, R247; log 8). -/
def calc16 : D (BitVec 16) := do
  let ds ← checksumSpan
  let s ← getS
  modS fun s => s.setAcc16 (crc16Acc s.cfg.doc.crc16Poly s.crc16Reflect ds)
  pure (crc16 s.cfg.doc.crc16Poly s.crc16Reflect ds)

/-- `crc32(span)`, through `ACC32` (44_checksum.md R241, R248; log 8). -/
def calc32 : D (BitVec 32) := do
  let ds ← checksumSpan
  let s ← getS
  modS fun s => s.setAcc32 (crc32Acc s.cfg.doc.crc32Poly s.cfg.crc32Reflect ds)
  pure (crc32 s.cfg.doc.crc32Poly s.cfg.crc32Reflect ds)

/-- VERIFY16 (44_checksum.md R249). -/
def verify16Op : D Bool := do
  let c ← calc16
  let o ← getPos
  let t ← readField .trailer16 16
  whenD (decide (t ≠ c.toNat)) (warnRec .checksumMismatch o c.toNat)
  pure (decide (t = c.toNat))

/-- VERIFY32 (44_checksum.md R250). -/
def verify32Op : D Bool := do
  let c ← calc32
  let o ← getPos
  let t ← readField .trailer32 32
  whenD (decide (t ≠ c.toNat)) (warnRec .checksumMismatch o c.toNat)
  pure (decide (t = c.toNat))

/-! ### Meanings -/

/-- CRC16 (44_checksum.md R247). -/
def execCrc16 (s : State) : Host.Outcome State Fault Refusal :=
  unitOp (do let c ← calc16; pure (.value c.toNat)) s

/-- CRC32 (44_checksum.md R248). -/
def execCrc32 (s : State) : Host.Outcome State Fault Refusal :=
  unitOp (do let c ← calc32; pure (.value c.toNat)) s

/-- VERIFY16 (44_checksum.md R249). -/
def execVerify16 (s : State) : Host.Outcome State Fault Refusal :=
  unitOp (do let b ← verify16Op; pure (.flag b)) s

/-- VERIFY32 (44_checksum.md R250). -/
def execVerify32 (s : State) : Host.Outcome State Fault Refusal :=
  unitOp (do let b ← verify32Op; pure (.flag b)) s

/-- TRAILER16, the structure that VERIFY16 reads (30_encoding.md R103, 44_checksum.md R249; log 2). -/
def execTrailer16 (s : State) : Host.Outcome State Fault Refusal :=
  unitOp (do let b ← verify16Op; pure (.flag b)) s

/-- TRAILER32, the structure that VERIFY32 reads (30_encoding.md R103, 44_checksum.md R250; log 2). -/
def execTrailer32 (s : State) : Host.Outcome State Fault Refusal :=
  unitOp (do let b ← verify32Op; pure (.flag b)) s

end Sys2Proof.Machine
end

