-- ==== Sys2Proof/Machine/Hooks.lean ====
section
/-! DEFINITION. Body hooks (42_ie_dispatch.md R180, R181): the evaluation of a hook's program over the cursor
operations its contract allows, and the default "opaque body" (log 5). What a hook may ask of the dispatch itself (a
Control-Sub-IE, a nested IE, a container) is a `HookCall`, answered by the dispatch (IeDispatch.lean). -/

namespace Sys2Proof.Machine

/-- What a hook may call, with the operands of what it calls (42_ie_dispatch.md R172, R180, 43_sub_burst.md R220, R229);
`sb` says that the caller is a part of a sub-burst. -/
inductive HookCall
  | control (k : ControlKind) (d : Dir) (sb : Bool)
  | nested (kind : NestedKind) (d : Dir) (sub lenBits ieStart : Nat)
  | container (d : Dir)
  deriving DecidableEq, Repr

/-- The slots of a running hook, the latest store first; a slot never stored reads as 0. -/
abbrev Env := List (Nat × Nat)

/-- The value in a slot. -/
def slotVal (env : Env) (i : Nat) : Nat := (env.lookup i).getD 0

/-- A session register as a number, read at the moment of use (70_reset_and_hazards.md R318). -/
def sessionVal (x : Session) : SessionRef → Nat
  | .cidType => cidTypeCode x.cidType
  | .harqMode => harqModeCode x.harqMode
  | .nLayer => x.nLayer.toNat
  | .stcZoneMatrix => x.stcZoneMatrix
  | .stcZoneDedicatedPilots => x.stcZoneDedicatedPilots
  | .incCid => x.incCid.toNat
  | .maxLogicalBands => x.fmtCfg.maxLogicalBands
  | .bandAmcSubchannelType => x.fmtCfg.bandAmcSubchannelType
  | .symbolCountNumber => x.fmtCfg.symbolCounts.length

/-- The value of an expression of a hook. -/
def evalExpr (s : State) (d : Dir) (env : Env) : HookExpr → Nat
  | .lit n => n
  | .slot i => slotVal env i
  | .slotAt i => slotVal env (evalExpr s d env i)
  | .session r => sessionVal s.session r
  | .symbolCount i => s.session.fmtCfg.symbolCounts.getD (evalExpr s d env i) 0
  | .pos => s.pos
  | .rem => s.rem
  | .drem => s.drem
  | .dirUl => if d = .ul then 1 else 0
  | .cqichIdWidth => s.inp.cqichIdWidth.toNat
  | .includeCor2Changes => s.inp.includeCor2Changes.toNat
  | .add a b => evalExpr s d env a + evalExpr s d env b
  | .sub a b => evalExpr s d env a - evalExpr s d env b
  | .mul a b => evalExpr s d env a * evalExpr s d env b
  | .div a b => evalExpr s d env a / evalExpr s d env b
  | .mod a b => evalExpr s d env a % evalExpr s d env b
  | .eq a b => if evalExpr s d env a = evalExpr s d env b then 1 else 0
  | .lt a b => if evalExpr s d env a < evalExpr s d env b then 1 else 0

/-- An expression evaluated in the state as it stands. -/
def evalD (d : Dir) (env : Env) (e : HookExpr) : D Nat := fun s => .ok (evalExpr s d env e) s

/-- Whether a record is one that the given hook emitted (10_state.md R45). -/
def isHookOf (id : HookId) : FieldId → Bool
  | .hook h _ => decide (h = id)
  | _ => false

/-- The `k` of a record to emit, if any, as it stands before the bits are read. -/
def evalField (d : Dir) (env : Env) (field : Option HookExpr) : D (Option Nat) := fun s =>
  .ok (field.map (evalExpr s d env)) s

/-- A record of a hook: `Emit(HOOK(kind, k), o, len, val)` where a `k` is given (10_state.md R45; of more than 32 bits too,
log 29). -/
def emitHook (id : HookId) (field : Option Nat) (off len : Nat) (val : Option Nat) : D Unit :=
  match field with
  | some k => emitRec (.hook id k) off len val
  | none => pure ()

/-- Where the next record of a hook may begin: after the last record that is not the hook's own, not before the hook's own
last one, not before START. A record must name bits already passed and stand in wire order (10_state.md R45,
20_memory.md R72 (b)); a field and a part of it may both be emitted. -/
def State.emitFloor (s : State) (id : HookId) : Nat :=
  s.out.foldl (fun a r => max a (if isHookOf id r.id then r.off else r.off + r.len)) s.start

/-- `Emit(HOOK(kind, k), o, n, …)` for bits the hook has passed before: the value is theirs, or absent for a byte string
(10_state.md R45; of more than 32 bits too, log 29). Any other bits break the hook's contract (42_ie_dispatch.md R180; log 18). -/
def hookEmit (id : HookId) (k o n : Nat) (byteString : Bool) : D Unit := fun s =>
  if s.emitFloor id ≤ o ∧ o + n ≤ s.pos then
    .ok ()
      (s.emit
        { id := .hook id k, off := o, len := n, val := if byteString then none else some (memRead s.mem o n) })
  else .error (.refused .hookContract) s

/-- The end of an IE's region (42_ie_dispatch.md R173): bits of the declared length that the body left are skipped with
a LengthConsistency warning. -/
def closeRest (r : Nat) : D Unit :=
  if r = 0 then pure ()
  else do
    let o ← getPos
    skipBits r
    warnRec .lengthConsistency o r

/-- Close (42_ie_dispatch.md R173). -/
def closeIe : D Unit := do
  let s ← getS
  closeRest s.drem
  popLimit

/-- `while DREM > 0`, each turn consuming at least one bit (70_reset_and_hazards.md R319, R320); a turn that consumes
nothing breaks the hook's contract (log 18). -/
def whileDremD {α : Type} (f : α → D α) : Nat → α → D α
  | 0, _ => refuse .hookContract
  | n + 1, a => do
    let s ← getS
    if s.drem = 0 then pure a
    else do
      let b ← f a
      let t ← getS
      if t.pos ≤ s.pos then refuse .hookContract else whileDremD f n b

/-- More turns than a loop that consumes at least one bit a turn can take before its next read fails. -/
def State.turnBound (s : State) : Nat := s.rem + 2

/-- RCID, with or without its record. -/
def rcidAs (emit : Bool) : D (Nat × Nat) := if emit then rcidField else rcidOp

/-- The direction a number stands for. -/
def dirOf (ul : Nat) : Dir := if ul = 0 then .dl else .ul

/-- The hooks whose own fields may be written to `n_layer` (43_sub_burst.md R229). -/
def mayWriteNLayer : HookId → Bool
  | .control .dedicatedMimoDl => true
  | .control .dedicatedMimoUl => true
  | _ => false

/-- The hooks whose own fields may be written to `cid_type`: the Compact headers (45_message_decoders.md R263). -/
def mayWriteCidType : HookId → Bool
  | .msgHdr .compactDlMap => true
  | .msgHdr .compactUlMap => true
  | _ => false

/-- A hook writes `n_layer`, at the moment of the write (60_exceptions.md R284); for the hook of another kind this breaks
the contract (42_ie_dispatch.md R180; log 27). -/
def hookWriteNLayer (id : HookId) (v : Nat) : D Unit :=
  if mayWriteNLayer id = true then modSession fun x => { x with nLayer := BitVec.ofNat 2 v }
  else refuse .hookContract

/-- A hook writes `cid_type`, as `hookWriteNLayer` writes `n_layer`. -/
def hookWriteCidType (id : HookId) (v : Nat) : D Unit :=
  if mayWriteCidType id = true then modSession fun x => { x with cidType := cidTypeOf (BitVec.ofNat 2 v) }
  else refuse .hookContract

/-- A hook's program on its slots (42_ie_dispatch.md R180): one case per operation the contract allows. A warning's `off` is
what the program gives, any bit address (10_state.md R46; DESIGN CHOICE, log 5). Of VERIFY16 no answer reaches the program
(44_checksum.md R252). In a part of a sub-burst (`sb`), and in a Control-Sub-IE it runs, each identifier is emitted
(43_sub_burst.md R225). The record of a field of more than 32 bits carries its value (DESIGN CHOICE, log 29). -/
def runProg (call : HookCall → D Unit) (id : HookId) (d : Dir) (sb : Bool) : HookProg → Env → D Env
  | .nop, env => pure env
  | .assign x e, env => do
    let v ← evalD d env e
    pure ((x, v) :: env)
  | .assignAt x e, env => do
    let i ← evalD d env x
    let v ← evalD d env e
    pure ((i, v) :: env)
  | .read x w field, env => do
    let n ← evalD d env w
    let k ← evalField d env field
    let o ← getPos
    let v ← readBits n
    emitHook id k o n (some v)
    pure ((x, v) :: env)
  | .read48 x field, env => do
    let k ← evalField d env field
    let o ← getPos
    let v ← readTwo 32 16
    emitHook id k o 48 (some v)
    pure ((x, v) :: env)
  | .read64 x field, env => do
    let k ← evalField d env field
    let o ← getPos
    let v ← readTwo 32 32
    emitHook id k o 64 (some v)
    pure ((x, v) :: env)
  | .rcid x y emit, env => do
    let c ← rcidAs (emit || sb)
    pure ((x, c.1) :: (y, c.2) :: env)
  | .skip w field, env => do
    let n ← evalD d env w
    let k ← evalField d env field
    let o ← getPos
    skipBits n
    emitHook id k o n none
    pure env
  | .padn, env => do
    padNibble
    pure env
  | .padb, env => do
    padByte
    pure env
  | .emit k o n b, env => do
    let i ← evalD d env k
    let p ← evalD d env o
    let w ← evalD d env n
    hookEmit id i p w b
    pure env
  | .warn k o info, env => do
    let p ← evalD d env o
    let n ← evalD d env info
    warnRec k p n
    pure env
  | .verify16, env => do
    let _ ← verify16Op
    pure env
  | .control k, env => do
    call (.control k d sb)
    pure env
  | .nestedIe kind ul sub lenBits ieStart, env => do
    let u ← evalD d env ul
    let a ← evalD d env sub
    let n ← evalD d env lenBits
    let o ← evalD d env ieStart
    call (.nested kind (dirOf u) a n o)
    pure env
  | .region lenBits a, env => do
    let n ← evalD d env lenBits
    pushLimit n
    let e ← runProg call id d sb a env
    closeIe
    pure e
  | .container ul, env => do
    let u ← evalD d env ul
    call (.container (dirOf u))
    pure env
  | .seq a b, env => do
    let e ← runProg call id d sb a env
    runProg call id d sb b e
  | .ite c a b, env => do
    let n ← evalD d env c
    if n ≠ 0 then runProg call id d sb a env else runProg call id d sb b env
  | .loop n a, env => do
    let k ← evalD d env n
    loopD (fun e => runProg call id d sb a e) k env
  | .whileDrem a, env => do
    let s ← getS
    whileDremD (fun e => runProg call id d sb a e) s.turnBound env
  | .writeNLayer e, env => do
    let v ← evalD d env e
    hookWriteNLayer id v
    pure env
  | .writeCidType e, env => do
    let v ← evalD d env e
    hookWriteCidType id v
    pure env

/-- What a hook returned: nothing where there is no hook, else its values (42_ie_dispatch.md R186). -/
abbrev HookRets := Option (List (Option Nat))

/-- The `i`-th returned value. -/
def retAt (r : HookRets) (i : Nat) : Option Nat := (r.bind fun l => l[i]?).join

/-- The `n` slots from slot `a` on. -/
def slotRange (env : Env) (a n : Nat) : List Nat := (List.range n).map fun i => slotVal env (a + i)

/-- The values a hook returns, evaluated at its end: those it names, then as many slots as it says. -/
def evalRets (d : Dir) (env : Env) (h : HookDef) : D HookRets := fun s =>
  let named := h.rets.map fun e => e.map (evalExpr s d env)
  let more := h.more.map fun p => (slotRange env (evalExpr s d env p.1) (evalExpr s d env p.2)).map some
  .ok (some (named ++ more.getD [])) s

/-- A hook run from empty slots. -/
def runHook (call : HookCall → D Unit) (id : HookId) (d : Dir) (sb : Bool) (h : HookDef) (env : Env) : D HookRets := do
  let e ← runProg call id d sb h.prog env
  evalRets d e h

/-- `BODY[id]`: the hook the configuration supplies, else the default (42_ie_dispatch.md R180); `sb` in a sub-burst. -/
def invokeHook (call : HookCall → D Unit) (id : HookId) (d : Dir) (sb : Bool) (dflt : D Unit) (env : Env) :
    D HookRets := do
  let s ← getS
  match s.cfg.hooks.lookup id with
  | some h => runHook call id d sb h env
  | none => do
    dflt
    pure none

/-- The default hook, "opaque body" (42_ie_dispatch.md R181). -/
def opaqueBody (id : HookId) : D Unit := do
  let s ← getS
  skipField (.body id) s.drem

/-- A returned value, or a free value where the body cannot tell (42_ie_dispatch.md R181; log 7). -/
def orFree {α : Type} (v : Option α) (free : Nat → α) : D α :=
  match v with
  | some a => pure a
  | none => draw free

/-- A returned number, or a free one. -/
def retOrFree (r : HookRets) (i : Nat) : D Nat := orFree (retAt r i) Config.freeNat

/-- A Control-Sub-IE hook (43_sub_burst.md R229); with no hook it is not present, 0 bits. -/
def controlHook (call : HookCall → D Unit) (d : Dir) (sb : Bool) (k : ControlKind) : D Unit := do
  let _ ← invokeHook call (.control k) d sb (pure ()) []
  pure ()

end Sys2Proof.Machine
end

