-- ==== Sys2Proof/Machine/SubBurst.lean ====
section
/-! DEFINITION. The Sub-Burst Container sequencer (43_sub_burst.md R220 to R237). -/

namespace Sys2Proof.Machine

/-- The layouts to which the per-layer repetition applies (43_sub_burst.md R226, R237). -/
def isMimo : Layout → Bool
  | .chase => false
  | .irCtc => false
  | .irCc => false
  | .mimoChase => true
  | .mimoIr => true
  | .mimoIrCc => true
  | .mimoStc => true

/-- `SB_LOOP(dir, layout)` (43_sub_burst.md R223). -/
def sbLoopKind (d : Dir) (l : Layout) : D LoopKind := do
  let s ← getS
  needParam (s.cfg.sbLoop.lookup (d, l)) .sbLoop

/-- `SB_CRC(dir, layout, include_cor2_changes)` (43_sub_burst.md R227). -/
def sbHasCrc (d : Dir) (l : Layout) : D Bool := do
  let s ← getS
  needParam (s.cfg.sbCrc.lookup (d, l, s.inp.includeCor2Changes)) .sbCrc

/-- `CONT_CRC(dir, layout, include_cor2_changes)` (43_sub_burst.md R227). -/
def contHasCrc (d : Dir) (l : Layout) : D Bool := do
  let s ← getS
  needParam (s.cfg.contCrc.lookup (d, l, s.inp.includeCor2Changes)) .contCrc

/-- A CRC-16 trailer where its predicate holds; a mismatch is a warning and the loop goes on (43_sub_burst.md R227). -/
def crcTrailer (present : Bool) : D Unit :=
  whenD present do
    let _ ← verify16Op
    pure ()

/-- How many identifiers have been emitted. -/
def State.cidCount (s : State) : Nat := s.out.countP fun r => decide (r.id = .cid)

/-- A part of a sub-burst: its hook, or the default of every `BODY[kind]`, the opaque body (00_scope.md R6,
42_ie_dispatch.md R181; log 12). -/
def sbPart (call : HookCall → D Unit) (d : Dir) (id : HookId) : D HookRets :=
  invokeHook call id d true (opaqueBody id) []

/-- The PRE part. Its hook must issue RCID at least once, each of them emitted (43_sub_burst.md R225): one that ends ok
without an identifier breaks its contract (log 18). -/
def sbPre (call : HookCall → D Unit) (d : Dir) (l : Layout) : D Unit := do
  let s ← getS
  let r ← sbPart call d (.sbPre d l)
  let t ← getS
  whenD (r.isSome && decide (t.cidCount ≤ s.cidCount)) (refuse .hookContract)

/-- The per-layer part, `n_layer` times as it stands after the PRE part (43_sub_burst.md R226). -/
def sbLayers (call : HookCall → D Unit) (d : Dir) (l : Layout) : D Unit := do
  let s ← getS
  whenD (isMimo l)
    (loopD (fun _ => do let _ ← sbPart call d (.sbLayer d l); pure ()) s.session.nLayer.toNat ())

/-- SubBurst(dir, layout) (43_sub_burst.md R225). -/
def subBurst (call : HookCall → D Unit) (d : Dir) (l : Layout) : D Unit := do
  sbPre call d l
  sbLayers call d l
  let _ ← sbPart call d (.sbPost d l)
  let b ← sbHasCrc d l
  crcTrailer b

/-- The sub-bursts: `N_sub_burst + 1` of them, or until the declared length is exhausted (43_sub_burst.md R223). -/
def sbLoopRun (call : HookCall → D Unit) (d : Dir) (l : Layout) (k : LoopKind) : D Unit := do
  let s ← getS
  match k with
  | .count => do
    let w ← needParam s.cfg.nSubBurstBits .nSubBurstBits
    let c ← readField .nSubBurst w
    loopD (fun _ => subBurst call d l) (c + 1) ()
  | .length => whileDremD (fun _ => subBurst call d l) s.turnBound ()

/-- SkipRest(mode, o) (43_sub_burst.md R224). -/
def skipRest (mode o : Nat) : D Unit := do
  let s ← getS
  skipField .reservedSkipped s.drem
  warnRec .unknownVariant o mode

/-- The container after its mode field (43_sub_burst.md R220). -/
def containerBody (call : HookCall → D Unit) (d : Dir) (o mode : Nat) (sel : Option Layout) : D Unit :=
  match sel with
  | none => skipRest mode o
  | some l => do
    setSeq .sbLoop
    let k ← sbLoopKind d l
    sbLoopRun call d l k
    setSeq .sbCrc
    let b ← contHasCrc d l
    crcTrailer b

/-- The mode field and what follows it; `sel` says which layout the mode selects (43_sub_burst.md R220, R222). -/
def containerFromMode (call : HookCall → D Unit) (d : Dir) (sel : Nat → D (Option Layout)) : D Unit := do
  let o ← getPos
  let mode ← readField .sbMode 4
  let l ← sel mode
  containerBody call d o mode l

/-- Container(dir) (43_sub_burst.md R220): header hook (empty by default, R221), mode, loop, trailer. STATE is SB_MODE
from the header on (R228; log 23). -/
def container (call : HookCall → D Unit) (d : Dir) : D Unit := do
  setSeq .sbMode
  let _ ← invokeHook call (.harqHdr d) d false (pure ()) []
  setSeq .sbMode
  containerFromMode call d (layoutOf d)

end Sys2Proof.Machine
end

