-- ==== Sys2Proof/Machine/IeRules.lean ====
section
/-! DEFINITION. The rules of the IE Dispatch Engine (42_ie_dispatch.md): Level 0, the bracket and its close, one rule per
kind of Level 1 and Level 2, the Compact family. -/

namespace Sys2Proof.Machine

/-! ### Level 0 (42_ie_dispatch.md R167 to R169) -/

/-- `n` entries of a CID list (42_ie_dispatch.md R167). -/
def cidList (n : Nat) : D Unit := loopD (fun _ => do let _ ← rcidField; pure ()) n ()

/-- The CID list of a regular IE, present for a legacy downlink map with `inc_cid` = 1 (42_ie_dispatch.md R167). -/
def cidListPart (d : Dir) (f : Family) : D Unit := do
  let s ← getS
  whenD (decide (f = .legacy ∧ d = .dl ∧ s.session.incCid = true)) do
    setSeq .ieCidList
    let n ← readField .nCid s.cfg.ncidBits
    cidList n

/-- The body word of index `k`, `w` bits of it (42_ie_dispatch.md R167). -/
def regBody (k w : Nat) : D Unit := do
  let _ ← readField (.regBody k) w
  pure ()

/-- Regular(t) (42_ie_dispatch.md R167); the type code does not change the layout. The second word is what
`REG_BODY_BITS_ALT` is longer than `REG_BODY_BITS` (00_scope.md R6). -/
def regular (d : Dir) (f : Family) : D Unit := do
  let alt ← sampleAlt
  cidListPart d f
  setSeq .ieRegBody
  let s ← getS
  regBody 0 s.cfg.doc.regBodyBits
  whenD alt (regBody 1 (s.cfg.doc.regBodyBitsAlt - s.cfg.doc.regBodyBits))

/-- Unassigned(t, ie_start) (42_ie_dispatch.md R168). -/
def unassigned (d : Dir) (f : Family) (t ieStart : Nat) : D Unit := do
  let s ← getS
  match s.cfg.l0Unassigned with
  | .regular => regular d f
  | .stop => do
    warnRec .unknownVariant ieStart t
    raise .unknownVariant

/-- GapPapr() (42_ie_dispatch.md R169): as a regular IE. -/
def gapPapr (d : Dir) (f : Family) : D Unit := regular d f

/-! ### Bracket (42_ie_dispatch.md R172, R173, R182, R183) -/

/-- SkipUnknown(s, len_bits, ie_start) (42_ie_dispatch.md R182). -/
def skipUnknown (sub lenBits ieStart : Nat) : D Unit := do
  skipField .reservedSkipped lenBits
  warnRec .unknownVariant ieStart sub

/-- SkipUnimplemented(kind, len_bits) (42_ie_dispatch.md R183). -/
def skipUnimplemented (lenBits : Nat) : D Unit := skipField .unimplementedSkipped lenBits

/-- An arm of the bracket that runs the rule of its kind. -/
def bodyArm (x : D Unit) : D Unit := do
  setSeq .ieBody
  x

/-- An arm of the bracket that skips. -/
def skipArm (x : D Unit) : D Unit := do
  setSeq .ieSkip
  x

/-- Bracket (42_ie_dispatch.md R172): the declared length becomes a limit before the arm looks at anything, and Close
follows an arm that ends ok; after an error the limit stays pushed (R174). -/
def bracket (lenBits : Nat) (arm : D Unit) : D Unit := do
  pushLimit lenBits
  arm
  closeIe

/-! ### Level-1 kinds (42_ie_dispatch.md R184 to R196) -/

/-- A kind whose body is its hook and that writes no session field. -/
def plainBody (call : HookCall → D Unit) (d : Dir) (id : HookId) : D Unit := do
  let _ ← invokeHook call id d false (opaqueBody id) []
  pure ()

/-- CHANNEL_MEASUREMENT (42_ie_dispatch.md R184). -/
def ruleChannelMeasurement (call : HookCall → D Unit) (d : Dir) : D Unit := plainBody call d (.l1 .channelMeasurement)

/-- STC_ZONE (42_ie_dispatch.md R186): writes the two STC-zone fields with what its hook returns, or free values. -/
def ruleStcZone (call : HookCall → D Unit) (d : Dir) : D Unit := do
  let r ← invokeHook call (.l1 .stcZone) d false (opaqueBody (.l1 .stcZone)) []
  let m ← retOrFree r 0
  let p ← retOrFree r 1
  modSession fun x => { x with stcZoneMatrix := m, stcZoneDedicatedPilots := p }

/-- AAS (42_ie_dispatch.md R187). -/
def ruleAas (call : HookCall → D Unit) (d : Dir) : D Unit := plainBody call d (.l1 .aas)

/-- DATA_LOCATION_OTHER_BS (42_ie_dispatch.md R188). -/
def ruleDataLocationOtherBs (call : HookCall → D Unit) (d : Dir) : D Unit := plainBody call d (.l1 .dataLocationOtherBs)

/-- CID_SWITCH (42_ie_dispatch.md R189): skips its body, then flips `inc_cid`. -/
def ruleCidSwitch : D Unit := do
  let s ← getS
  skipField (.body (.l1 .cidSwitch)) s.drem
  modSession fun x => { x with incCid := !x.incCid }

/-- MIMO_BASIC (42_ie_dispatch.md R190), an unimplemented passthrough. -/
def ruleMimoBasic (lenBits : Nat) : D Unit := skipUnimplemented lenBits

/-- MIMO_ENHANCED (42_ie_dispatch.md R191), an unimplemented passthrough. -/
def ruleMimoEnhanced (lenBits : Nat) : D Unit := skipUnimplemented lenBits

/-- HARQ_MAP_POINTER (42_ie_dispatch.md R192). -/
def ruleHarqMapPointer (call : HookCall → D Unit) (d : Dir) : D Unit := plainBody call d (.l1 .harqMapPointer)

/-- PHY_MODIFIER (42_ie_dispatch.md R193). -/
def rulePhyModifier (call : HookCall → D Unit) (d : Dir) : D Unit := plainBody call d (.l1 .phyModifier)

/-- BROADCAST_CONTROL_POINTER (42_ie_dispatch.md R194). -/
def ruleBroadcastControlPointer (call : HookCall → D Unit) (d : Dir) : D Unit :=
  plainBody call d (.l1 .broadcastControlPointer)

/-- PUSC_BURST_OTHER_SEGMENT (42_ie_dispatch.md R195). -/
def rulePuscBurstOtherSegment (call : HookCall → D Unit) (d : Dir) : D Unit :=
  plainBody call d (.l1 .puscBurstOtherSegment)

/-- INTERFERENCE_NOISE_LEVEL (42_ie_dispatch.md R196). -/
def ruleInterferenceNoiseLevel (call : HookCall → D Unit) (d : Dir) : D Unit :=
  plainBody call d (.l1 .interferenceNoiseLevel)

/-! ### Level-2 kinds (42_ie_dispatch.md R200 to R206) -/

/-- MBS_MAP (42_ie_dispatch.md R200). -/
def ruleMbsMap (call : HookCall → D Unit) (d : Dir) : D Unit := plainBody call d (.l2 .mbsMap)

/-- HANDOVER_VARIANT (42_ie_dispatch.md R201), an unimplemented passthrough. -/
def ruleHandoverVariant (lenBits : Nat) : D Unit := skipUnimplemented lenBits

/-- SKIP, the IE kind (42_ie_dispatch.md R202). -/
def ruleSkipIe (call : HookCall → D Unit) (d : Dir) : D Unit := plainBody call d (.l2 .skipIe)

/-- HARQ_MAP (42_ie_dispatch.md R203): the sub-burst container inside the IE's limit. -/
def ruleHarqMap (call : HookCall → D Unit) (d : Dir) : D Unit := container call d

/-- HARQ_ACK_BITMAP (42_ie_dispatch.md R204). -/
def ruleHarqAckBitmap (call : HookCall → D Unit) (d : Dir) : D Unit := plainBody call d (.l2 .harqAckBitmap)

/-- ENHANCED_DL_MAP (42_ie_dispatch.md R205). -/
def ruleEnhancedDlMap (call : HookCall → D Unit) (d : Dir) : D Unit := plainBody call d (.l2 .enhancedDlMap)

/-- AAS_SDMA (42_ie_dispatch.md R206). -/
def ruleAasSdma (call : HookCall → D Unit) (d : Dir) : D Unit := plainBody call d (.l2 .aasSdma)

/-! ### The Compact family (42_ie_dispatch.md R213 to R215) -/

/-- FORMAT_CONFIGURATION (42_ie_dispatch.md R214): its hook returns `cid_type`, `max_logical_bands`,
`band_amc_subchannel_type` and then the symbol counts; with no hook the fields are unspecified (R181; log 7). -/
def ruleFormatConfiguration (r : HookRets) : D Unit := do
  let c ← orFree ((retAt r 0).map (BitVec.ofNat 2)) Config.freeCidType
  let b ← retOrFree r 1
  let a ← retOrFree r 2
  let l ← orFree (r.map fun rs => (rs.drop 3).map fun v => v.getD 0) Config.freeSymbolCounts
  modSession fun x =>
    { x with
      cidType := cidTypeOf c
      fmtCfg := { maxLogicalBands := b, bandAmcSubchannelType := a, symbolCounts := l } }

/-- HARQ_MODE_SWITCH (42_ie_dispatch.md R215): `harq_mode` becomes what its hook returns, or is unspecified. -/
def ruleHarqModeSwitch (r : HookRets) : D Unit := do
  let h ← orFree ((retAt r 0).map fun v => decide (v % 2 = 1)) Config.freeHarqMode
  modSession fun x => { x with harqMode := harqModeOf h }

/-- What a Compact kind writes after its body: nothing but for the two kinds the document names
(42_ie_dispatch.md R213). -/
def compactEffect (k : CompactKind) (r : HookRets) : D Unit :=
  match k with
  | .formatConfiguration => ruleFormatConfiguration r
  | .harqModeSwitch => ruleHarqModeSwitch r
  | .normalSubchannel => pure ()
  | .bandAmc => pure ()
  | .safety => pure ()
  | .other _ => pure ()

/-- The type code of a Compact IE, emitted as a Level-0 type where the map gives it any bits (30_encoding.md R108;
log 13). -/
def compactCode (w : Nat) : D Nat := if w = 0 then pure 0 else readField .l0Type w

/-- A Compact IE under a given map (42_ie_dispatch.md R213); the hook finds its type code in slot 0. STATE stays IE_TYPE
while the type code is read and is IE_BODY after it, which R216 says of the legacy family only (DESIGN CHOICE, log 30). -/
def compactBody (call : HookCall → D Unit) (d : Dir) (m : CompactMap) : D Unit := do
  let c ← compactCode m.codeBits
  setSeq .ieBody
  let k := (m.table.lookup c).getD (.other c)
  let r ← invokeHook call (.compact k) d false (opaqueBody (.compact k)) [(0, c)]
  compactEffect k r

/-- DecodeCompactIE(dir) (42_ie_dispatch.md R213). -/
def decodeCompactIe (call : HookCall → D Unit) (d : Dir) : D Unit := do
  let s ← getS
  match s.cfg.compactMap with
  | some m => compactBody call d m
  | none => refuse .noCompactMap

end Sys2Proof.Machine
end

