-- ==== Sys2Proof/Machine/IeDispatch.lean ====
section
/-! DEFINITION. The dispatch itself (42_ie_dispatch.md R160 to R174): the arms of the three levels, what a hook may call
back, DecodeIE, and the IE operation that encloses one IE. -/

namespace Sys2Proof.Machine

/-- The arm of a Level-1 kind (42_ie_dispatch.md R172). -/
def l1Arm (call : HookCall → D Unit) (d : Dir) (lenBits : Nat) : L1Kind → D Unit
  | .channelMeasurement => bodyArm (ruleChannelMeasurement call d)
  | .stcZone => bodyArm (ruleStcZone call d)
  | .aas => bodyArm (ruleAas call d)
  | .dataLocationOtherBs => bodyArm (ruleDataLocationOtherBs call d)
  | .cidSwitch => bodyArm ruleCidSwitch
  | .mimoBasic => skipArm (ruleMimoBasic lenBits)
  | .mimoEnhanced => skipArm (ruleMimoEnhanced lenBits)
  | .harqMapPointer => bodyArm (ruleHarqMapPointer call d)
  | .phyModifier => bodyArm (rulePhyModifier call d)
  | .broadcastControlPointer => bodyArm (ruleBroadcastControlPointer call d)
  | .puscBurstOtherSegment => bodyArm (rulePuscBurstOtherSegment call d)
  | .interferenceNoiseLevel => bodyArm (ruleInterferenceNoiseLevel call d)

/-- The arm of a Level-2 kind (42_ie_dispatch.md R172). -/
def l2Arm (call : HookCall → D Unit) (d : Dir) (lenBits : Nat) : L2Kind → D Unit
  | .mbsMap => bodyArm (ruleMbsMap call d)
  | .handoverVariant => skipArm (ruleHandoverVariant lenBits)
  | .skipIe => bodyArm (ruleSkipIe call d)
  | .harqMap => bodyArm (ruleHarqMap call d)
  | .harqAckBitmap => bodyArm (ruleHarqAckBitmap call d)
  | .enhancedDlMap => bodyArm (ruleEnhancedDlMap call d)
  | .aasSdma => bodyArm (ruleAasSdma call d)

/-- The arm of what a sub-type selects, Unknown included (42_ie_dispatch.md R172). -/
def ieArm (call : HookCall → D Unit) (d : Dir) (sub lenBits ieStart : Nat) : Option IeKind → D Unit
  | none => skipArm (skipUnknown sub lenBits ieStart)
  | some (.l1 k) => l1Arm call d lenBits k
  | some (.l2 k) => l2Arm call d lenBits k

/-- The arm chosen by the map, looked at inside the limit (42_ie_dispatch.md R172, 60_exceptions.md R285; log 16). -/
def mappedArm (call : HookCall → D Unit) (lvl : Level) (d : Dir) (sub lenBits ieStart : Nat) : D Unit := do
  let k ← kindOf lvl d sub
  ieArm call d sub lenBits ieStart k

/-- The arm of a Bracket that a hook issues: of the kind it names, or of the one a map gives (42_ie_dispatch.md R172). -/
def nestedArm (call : HookCall → D Unit) (kind : NestedKind) (d : Dir) (sub lenBits ieStart : Nat) : D Unit :=
  match kind with
  | .given k => ieArm call d sub lenBits ieStart k
  | .mapped lvl => mappedArm call lvl d sub lenBits ieStart

/-- What a hook calls, with at most `n` calls one inside the other (42_ie_dispatch.md R180, 43_sub_burst.md R229). -/
def callHook : Nat → HookCall → D Unit
  | 0, _ => refuse .hookContract
  | n + 1, .control k d sb => controlHook (callHook n) d sb k
  | n + 1, .nested kind d sub lenBits ieStart => bracket lenBits (nestedArm (callHook n) kind d sub lenBits ieStart)
  | n + 1, .container d => container (callHook n) d

/-- What the hook of an operation calls: nested as deep as the bits that are left allow a chain that ends
(70_reset_and_hazards.md R320; log 18). -/
def topCall (c : HookCall) : D Unit := do
  let s ← getS
  callHook (Config.callsPerBit * (s.rem + 1)) c

/-! ### The heads -/

/-- The Level-0 type field (42_ie_dispatch.md R162). -/
def typeField : D Nat := do
  let s ← getS
  readField .l0Type s.cfg.doc.l0TypeBits

/-- The declared length in bits (30_encoding.md R105). -/
def lenField (lvl : Level) (d : Dir) : D Nat := do
  let w ← lenWidth lvl d
  let n ← readField .length w
  let s ← getS
  pure (n * s.cfg.lenUnitBits)

/-- An Extended or Extended-2 IE after its type field, its body run by the given arm (42_ie_dispatch.md R170, R171). -/
def extendedWith (lvl : Level) (d : Dir) (arm : Nat → Nat → D Unit) : D Unit := do
  setSeq .ieXhdr
  let s ← getS
  let sub ← readField .subtype s.cfg.doc.subtypeBits
  let n ← lenField lvl d
  bracket n (arm sub n)

/-- Extended(dir, ie_start) (42_ie_dispatch.md R170). -/
def extended (d : Dir) (ieStart : Nat) : D Unit :=
  extendedWith .one d fun sub n => mappedArm topCall .one d sub n ieStart

/-- Extended2(dir, ie_start) (42_ie_dispatch.md R171). -/
def extended2 (d : Dir) (ieStart : Nat) : D Unit :=
  extendedWith .two d fun sub n => mappedArm topCall .two d sub n ieStart

/-- The arms of the Level-0 code (42_ie_dispatch.md R162); a code above 15 is taken as unassigned (log 22). -/
def l0Arm (d : Dir) (f : Family) (ieStart t : Nat) : D Unit :=
  if t ≤ 10 then regular d f
  else if t ≤ 12 then unassigned d f t ieStart
  else if t = 13 then gapPapr d f
  else if t = 14 then extended2 d ieStart
  else if t = 15 then extended d ieStart
  else unassigned d f t ieStart

/-- DecodeIE(dir, Legacy) (42_ie_dispatch.md R162). -/
def decodeLegacyIe (d : Dir) : D Unit := do
  let o ← getPos
  let t ← typeField
  l0Arm d .legacy o t

/-- DecodeIE(dir, family) (42_ie_dispatch.md R162). -/
def decodeIe (d : Dir) (f : Family) : D Unit :=
  match f with
  | .compact => decodeCompactIe topCall d
  | .legacy => decodeLegacyIe d

/-! ### The IE operation (42_ie_dispatch.md R160) -/

/-- BadConfig (60_exceptions.md R287). -/
def checkCqich : D Unit := fun s =>
  if Config.cqichIdWidthMax < s.inp.cqichIdWidth.toNat then .error (.refused .badConfig) s else .ok () s

/-- NoCompactMap (60_exceptions.md R287). -/
def checkCompact (f : Family) : D Unit := fun s =>
  match f, s.cfg.compactMap with
  | .compact, none => .error (.refused .noCompactMap) s
  | _, _ => .ok () s

/-- An IE operation around a body: the refusals of the command, the start, the body, and the end (42_ie_dispatch.md
R160, 60_exceptions.md R284, R285). -/
def ieOp (body : D Unit) (s : State) : Host.Outcome State Fault Refusal :=
  callOp (do checkCqich; modS State.startIe; body) s

/-- IE dir,family (42_ie_dispatch.md R160). -/
def ieCommand (d : Dir) (f : Family) (s : State) : Host.Outcome State Fault Refusal :=
  ieOp (do checkCompact f; modS (fun s => s.setRoute d f); decodeIe d f) s

/-- IE DL,Legacy. -/
def execIeDlLegacy (s : State) : Host.Outcome State Fault Refusal := ieCommand .dl .legacy s

/-- IE UL,Legacy. -/
def execIeUlLegacy (s : State) : Host.Outcome State Fault Refusal := ieCommand .ul .legacy s

/-- IE DL,Compact. -/
def execIeDlCompact (s : State) : Host.Outcome State Fault Refusal := ieCommand .dl .compact s

/-- IE UL,Compact. -/
def execIeUlCompact (s : State) : Host.Outcome State Fault Refusal := ieCommand .ul .compact s

end Sys2Proof.Machine
end

