-- ==== Sys2Proof/Machine/Message.lean ====
section
/-! DEFINITION. The Message sequencer (45_message_decoders.md R260 to R270). -/

namespace Sys2Proof.Machine

/-- The direction and family with which a kind calls DecodeIE (45_message_decoders.md R260). -/
def kindArgs (c : Params) : MsgKind → Dir × Family
  | .dlMap => (.dl, .legacy)
  | .ulMap => (.ul, .legacy)
  | .compactDlMap => (.dl, .compact)
  | .compactUlMap => (.ul, .compact)
  | .raasPrivateMap => c.raasIeKind

/-- The record a message header hook returns (45_message_decoders.md R263). -/
structure Header where
  ieBits : Nat
  ulAppended : Bool
  trailer : Bool
  deriving DecidableEq, Repr

/-- A legacy kind, whose header lies inside the declared length (45_message_decoders.md R264). -/
def isLegacyKind : MsgKind → Bool
  | .dlMap => true
  | .ulMap => true
  | .compactDlMap => false
  | .compactUlMap => false
  | .raasPrivateMap => false

/-- A Compact kind, whose header may write `cid_type` (45_message_decoders.md R263). -/
def isCompactKind : MsgKind → Bool
  | .dlMap => false
  | .ulMap => false
  | .compactDlMap => true
  | .compactUlMap => true
  | .raasPrivateMap => false

/-- The kinds that have a trailer, which their header may turn off; default of `h.trailer` (45_message_decoders.md R263,
R265). -/
def hasTrailer (k : MsgKind) : Bool := !isLegacyKind k

/-- `cid_type` becomes unspecified: any of its four values (42_ie_dispatch.md R181; log 7). -/
def freeCidType : D Unit := do
  let c ← draw Config.freeCidType
  modSession fun x => { x with cidType := cidTypeOf c }

/-- What a header does to `cid_type` (45_message_decoders.md R263): the hook of a Compact header may have written it;
where there is no hook it becomes unspecified (log 7). -/
def headerCidType (k : MsgKind) (r : HookRets) : D Unit :=
  if isCompactKind k then
    match r with
    | none => freeCidType
    | some _ => pure ()
  else pure ()

/-- A returned truth value, or its default. -/
def retFlag (r : HookRets) (i : Nat) (dflt : Bool) : Bool :=
  match retAt r i with
  | some v => decide (v ≠ 0)
  | none => dflt

/-- `MSG_HDR[kind]` (45_message_decoders.md R263); the default consumes 0 bits (log 17). A hook can turn a trailer off,
not give one to a kind that has none (R265, 92_eei_decisions.md D24). -/
def msgHeader (k : MsgKind) (d : Dir) : D Header := do
  let o ← getPos
  let r ← invokeHook topCall (.msgHdr k) d false (pure ()) []
  headerCidType k r
  let s ← getS
  pure
    { ieBits := (retAt r 0).getD (s.inp.msgLenBits - (s.pos - o))
      ulAppended := retFlag r 1 false
      trailer := hasTrailer k && retFlag r 2 true }

/-- The header and the limit of the IE region, in the order of the kind (45_message_decoders.md R264). -/
def headerAndLimit (k : MsgKind) (d : Dir) : D Header := do
  let s ← getS
  if isLegacyKind k then do
    pushLimit s.inp.msgLenBits
    msgHeader k d
  else do
    let h ← msgHeader k d
    pushLimit h.ieBits
    pure h

/-- `while POS < end: DecodeIE` (45_message_decoders.md R264), each IE consuming at least one bit
(70_reset_and_hazards.md R320); an IE that consumes nothing breaks its hook's contract (log 18). -/
def ieLoop (d : Dir) (f : Family) (endPos : Nat) : Nat → D Unit
  | 0 => refuse .hookContract
  | n + 1 => do
    let s ← getS
    if endPos ≤ s.pos then pure ()
    else do
      setSeq .ieType
      decodeIe d f
      let t ← getS
      if t.pos ≤ s.pos then refuse .hookContract else ieLoop d f endPos n

/-- The trailer of a kind that has one (45_message_decoders.md R264, R265). -/
def msgTrailer (k : MsgKind) : D Unit :=
  if k = .raasPrivateMap then do
    let _ ← verify16Op
    pure ()
  else do
    let _ ← verify32Op
    pure ()

/-- The top of the limit stack (10_state.md R23). -/
def State.topLimit (s : State) : Nat := s.limstk.headD s.total

/-- Segment(kind) up to the appended segment (45_message_decoders.md R264, R267): header, IEs, POPLIM, PADB, trailer. -/
def segmentBody (k : MsgKind) : D Header := do
  let c ← getS
  let a := kindArgs c.cfg k
  setSeq .msgHdr
  let h ← headerAndLimit k a.1
  let s ← getS
  ieLoop a.1 a.2 s.topLimit s.turnBound
  popLimit
  setSeq .msgPad
  padByte
  setSeq .msgCrc
  whenD h.trailer (msgTrailer k)
  pure h

/-- Appended() (45_message_decoders.md R266): the session, lists and flags go on; only the span start moves. -/
def appended : D Unit := do
  modS fun s => s.setMsgStart (s.pos / 8)
  let _ ← segmentBody .compactUlMap
  pure ()

/-- Segment(kind) (45_message_decoders.md R264). -/
def segment (k : MsgKind) : D Unit := do
  let h ← segmentBody k
  whenD (decide (k = .compactDlMap) && h.ulAppended) appended

/-- The session and the inputs at message entry (45_message_decoders.md R261, 10_state.md R38, R50). -/
def State.enterMsg (s : State) (k : MsgKind) : State :=
  { s with
    session := s.cfg.sessionInit, dir := (kindArgs s.cfg k).1, family := (kindArgs s.cfg k).2, msgKind := k }

/-- MSG kind (45_message_decoders.md R261). -/
def msgCommand (k : MsgKind) (s : State) : Host.Outcome State Fault Refusal :=
  callOp
    (do
      checkCqich
      initCursor s.inp.start
      checkCompact (kindArgs s.cfg k).2
      modS fun s => s.enterMsg k
      segment k)
    s

/-- MSG DL_MAP. -/
def execMsgDlMap (s : State) : Host.Outcome State Fault Refusal := msgCommand .dlMap s

/-- MSG UL_MAP. -/
def execMsgUlMap (s : State) : Host.Outcome State Fault Refusal := msgCommand .ulMap s

/-- MSG COMPACT_DL_MAP. -/
def execMsgCompactDlMap (s : State) : Host.Outcome State Fault Refusal := msgCommand .compactDlMap s

/-- MSG COMPACT_UL_MAP. -/
def execMsgCompactUlMap (s : State) : Host.Outcome State Fault Refusal := msgCommand .compactUlMap s

/-- MSG RAAS_PRIVATE_MAP. -/
def execMsgRaasPrivateMap (s : State) : Host.Outcome State Fault Refusal := msgCommand .raasPrivateMap s

end Sys2Proof.Machine
end

