-- ==== Sys2Proof/Machine/WireLevel0.lean ====
section
/-! DEFINITION. The meanings of the Level-0 wire structures (42_ie_dispatch.md R162 to R171): an IE operation on the
structure at POS whose type code is the one of the row. Direction and family are the registers `dir` and `family`; every
field, the type included, is read through the cursor (log 2, log 25). -/

namespace Sys2Proof.Machine

/-- A structure of format REG (30_encoding.md R94). -/
def regularRow (d : Dir) (f : Family) : D Unit := do
  let _ ← typeField
  regular d f

/-- A structure of format L0 with an unassigned code (42_ie_dispatch.md R168). -/
def unassignedRow (d : Dir) (f : Family) : D Unit := do
  let o ← getPos
  let t ← typeField
  unassigned d f t o

/-- The Gap/PAPR structure (42_ie_dispatch.md R169). -/
def gapPaprRow (d : Dir) (f : Family) : D Unit := do
  let _ ← typeField
  gapPapr d f

/-- An Extended structure of a direction (42_ie_dispatch.md R170). -/
def extendedRow (d : Dir) : D Unit := do
  let o ← getPos
  let _ ← typeField
  extended d o

/-- An Extended-2 structure (42_ie_dispatch.md R171). -/
def extended2Row (d : Dir) : D Unit := do
  let o ← getPos
  let _ ← typeField
  extended2 d o

/-- Level-0 type 0 (42_ie_dispatch.md R167). -/
def execRegType0 (s : State) : Host.Outcome State Fault Refusal :=
  ieOp (regularRow s.dir s.family) s

/-- Level-0 type 1 (42_ie_dispatch.md R167). -/
def execRegType1 (s : State) : Host.Outcome State Fault Refusal :=
  ieOp (regularRow s.dir s.family) s

/-- Level-0 type 2 (42_ie_dispatch.md R167). -/
def execRegType2 (s : State) : Host.Outcome State Fault Refusal :=
  ieOp (regularRow s.dir s.family) s

/-- Level-0 type 3 (42_ie_dispatch.md R167). -/
def execRegType3 (s : State) : Host.Outcome State Fault Refusal :=
  ieOp (regularRow s.dir s.family) s

/-- Level-0 type 4 (42_ie_dispatch.md R167). -/
def execRegType4 (s : State) : Host.Outcome State Fault Refusal :=
  ieOp (regularRow s.dir s.family) s

/-- Level-0 type 5 (42_ie_dispatch.md R167). -/
def execRegType5 (s : State) : Host.Outcome State Fault Refusal :=
  ieOp (regularRow s.dir s.family) s

/-- Level-0 type 6 (42_ie_dispatch.md R167). -/
def execRegType6 (s : State) : Host.Outcome State Fault Refusal :=
  ieOp (regularRow s.dir s.family) s

/-- Level-0 type 7 (42_ie_dispatch.md R167). -/
def execRegType7 (s : State) : Host.Outcome State Fault Refusal :=
  ieOp (regularRow s.dir s.family) s

/-- Level-0 type 8 (42_ie_dispatch.md R167). -/
def execRegType8 (s : State) : Host.Outcome State Fault Refusal :=
  ieOp (regularRow s.dir s.family) s

/-- Level-0 type 9 (42_ie_dispatch.md R167). -/
def execRegType9 (s : State) : Host.Outcome State Fault Refusal :=
  ieOp (regularRow s.dir s.family) s

/-- Level-0 type 10 (42_ie_dispatch.md R167). -/
def execRegType10 (s : State) : Host.Outcome State Fault Refusal :=
  ieOp (regularRow s.dir s.family) s

/-- Level-0 type 11, not assigned (42_ie_dispatch.md R168). -/
def execL0Unassigned11 (s : State) : Host.Outcome State Fault Refusal :=
  ieOp (unassignedRow s.dir s.family) s

/-- Level-0 type 12, not assigned (42_ie_dispatch.md R168). -/
def execL0Unassigned12 (s : State) : Host.Outcome State Fault Refusal :=
  ieOp (unassignedRow s.dir s.family) s

/-- Level-0 type 13 (42_ie_dispatch.md R169). -/
def execGapPapr (s : State) : Host.Outcome State Fault Refusal :=
  ieOp (gapPaprRow s.dir s.family) s

/-- Level-0 type 14, the Extended-2 escape (42_ie_dispatch.md R171). -/
def execExtended2 (s : State) : Host.Outcome State Fault Refusal :=
  ieOp (extended2Row s.dir) s

/-- Level-0 type 15 in format L1-DL, the Extended escape (42_ie_dispatch.md R170). -/
def execExtended (s : State) : Host.Outcome State Fault Refusal :=
  ieOp (extendedRow .dl) s

/-- Level-0 type 15 in format L1-UL (30_encoding.md R97, 42_ie_dispatch.md R170). -/
def execExtendedUplink (s : State) : Host.Outcome State Fault Refusal :=
  ieOp (extendedRow .ul) s

end Sys2Proof.Machine
end

