-- ==== Sys2Proof/Machine/WireLevel1.lean ====
section
/-! DEFINITION. The meanings of the Level-1 sub-types (42_ie_dispatch.md R184 to R196, R182): an IE operation on the
Extended structure at POS whose sub-type selects the row's kind (log 2, log 25). -/

namespace Sys2Proof.Machine

/-- An Extended structure, its body run by the given arm (which is told where the IE starts, the sub-type and the body's
length in bits). -/
def level1Row (d : Dir) (arm : Nat → Nat → Nat → D Unit) : D Unit := do
  let o ← getPos
  let _ ← typeField
  extendedWith .one d (arm o)

/-- CHANNEL_MEASUREMENT (42_ie_dispatch.md R184). -/
def execChannelMeasurement (s : State) : Host.Outcome State Fault Refusal :=
  ieOp (level1Row s.dir fun _ _ _ => bodyArm (ruleChannelMeasurement topCall s.dir)) s

/-- STC_ZONE (42_ie_dispatch.md R186). -/
def execStcZone (s : State) : Host.Outcome State Fault Refusal :=
  ieOp (level1Row s.dir fun _ _ _ => bodyArm (ruleStcZone topCall s.dir)) s

/-- AAS (42_ie_dispatch.md R187). -/
def execAas (s : State) : Host.Outcome State Fault Refusal :=
  ieOp (level1Row s.dir fun _ _ _ => bodyArm (ruleAas topCall s.dir)) s

/-- DATA_LOCATION_OTHER_BS (42_ie_dispatch.md R188). -/
def execDataLocationOtherBs (s : State) : Host.Outcome State Fault Refusal :=
  ieOp (level1Row s.dir fun _ _ _ => bodyArm (ruleDataLocationOtherBs topCall s.dir)) s

/-- CID_SWITCH (42_ie_dispatch.md R189). -/
def execCidSwitch (s : State) : Host.Outcome State Fault Refusal :=
  ieOp (level1Row s.dir fun _ _ _ => bodyArm ruleCidSwitch) s

/-- MIMO_BASIC (42_ie_dispatch.md R190). -/
def execMimoBasic (s : State) : Host.Outcome State Fault Refusal :=
  ieOp (level1Row s.dir fun _ _ n => skipArm (ruleMimoBasic n)) s

/-- MIMO_ENHANCED (42_ie_dispatch.md R191). -/
def execMimoEnhanced (s : State) : Host.Outcome State Fault Refusal :=
  ieOp (level1Row s.dir fun _ _ n => skipArm (ruleMimoEnhanced n)) s

/-- HARQ_MAP_POINTER (42_ie_dispatch.md R192). -/
def execHarqMapPointer (s : State) : Host.Outcome State Fault Refusal :=
  ieOp (level1Row s.dir fun _ _ _ => bodyArm (ruleHarqMapPointer topCall s.dir)) s

/-- PHY_MODIFIER (42_ie_dispatch.md R193). -/
def execPhyModifier (s : State) : Host.Outcome State Fault Refusal :=
  ieOp (level1Row s.dir fun _ _ _ => bodyArm (rulePhyModifier topCall s.dir)) s

/-- Sub-type 9, Unknown under the default map (42_ie_dispatch.md R182). -/
def execUnknownL1Code9 (s : State) : Host.Outcome State Fault Refusal :=
  ieOp (level1Row s.dir fun o sub n => skipArm (skipUnknown sub n o)) s

/-- BROADCAST_CONTROL_POINTER (42_ie_dispatch.md R194). -/
def execBroadcastControlPointer (s : State) : Host.Outcome State Fault Refusal :=
  ieOp (level1Row s.dir fun _ _ _ => bodyArm (ruleBroadcastControlPointer topCall s.dir)) s

/-- PUSC_BURST_OTHER_SEGMENT (42_ie_dispatch.md R195). -/
def execPuscBurstOtherSegment (s : State) : Host.Outcome State Fault Refusal :=
  ieOp (level1Row s.dir fun _ _ _ => bodyArm (rulePuscBurstOtherSegment topCall s.dir)) s

/-- Sub-type 12, Unknown under the default map (42_ie_dispatch.md R182). -/
def execUnknownL1Code12 (s : State) : Host.Outcome State Fault Refusal :=
  ieOp (level1Row s.dir fun o sub n => skipArm (skipUnknown sub n o)) s

/-- Sub-type 13, Unknown under the default map (42_ie_dispatch.md R182). -/
def execUnknownL1Code13 (s : State) : Host.Outcome State Fault Refusal :=
  ieOp (level1Row s.dir fun o sub n => skipArm (skipUnknown sub n o)) s

/-- Sub-type 14, Unknown under the default map (42_ie_dispatch.md R182). -/
def execUnknownL1Code14 (s : State) : Host.Outcome State Fault Refusal :=
  ieOp (level1Row s.dir fun o sub n => skipArm (skipUnknown sub n o)) s

/-- INTERFERENCE_NOISE_LEVEL (42_ie_dispatch.md R196). -/
def execInterferenceNoiseLevel (s : State) : Host.Outcome State Fault Refusal :=
  ieOp (level1Row s.dir fun _ _ _ => bodyArm (ruleInterferenceNoiseLevel topCall s.dir)) s

end Sys2Proof.Machine
end

