-- ==== Sys2Proof/Machine/WireLevel2.lean ====
section
/-! DEFINITION. The meanings of the Level-2 sub-types (42_ie_dispatch.md R200 to R206, R182): an IE operation on the
Extended-2 structure at POS whose sub-type selects the row's kind (log 2, log 25). -/

namespace Sys2Proof.Machine

/-- An Extended-2 structure, its body run by the given arm (which is told where the IE starts, the sub-type and the
body's length in bits). -/
def level2Row (d : Dir) (arm : Nat → Nat → Nat → D Unit) : D Unit := do
  let o ← getPos
  let _ ← typeField
  extendedWith .two d (arm o)

/-- MBS_MAP (42_ie_dispatch.md R200). -/
def execMbsMap (s : State) : Host.Outcome State Fault Refusal :=
  ieOp (level2Row s.dir fun _ _ _ => bodyArm (ruleMbsMap topCall s.dir)) s

/-- HANDOVER_VARIANT, default code 1 (42_ie_dispatch.md R201). -/
def execHandoverVariant1 (s : State) : Host.Outcome State Fault Refusal :=
  ieOp (level2Row s.dir fun _ _ n => skipArm (ruleHandoverVariant n)) s

/-- HANDOVER_VARIANT, default code 2 (42_ie_dispatch.md R201). -/
def execHandoverVariant2 (s : State) : Host.Outcome State Fault Refusal :=
  ieOp (level2Row s.dir fun _ _ n => skipArm (ruleHandoverVariant n)) s

/-- HANDOVER_VARIANT, default code 3 (42_ie_dispatch.md R201). -/
def execHandoverVariant3 (s : State) : Host.Outcome State Fault Refusal :=
  ieOp (level2Row s.dir fun _ _ n => skipArm (ruleHandoverVariant n)) s

/-- Sub-type 4, Unknown under the default map (42_ie_dispatch.md R182). -/
def execUnknownL2Code4 (s : State) : Host.Outcome State Fault Refusal :=
  ieOp (level2Row s.dir fun o sub n => skipArm (skipUnknown sub n o)) s

/-- Sub-type 5, Unknown under the default map (42_ie_dispatch.md R182). -/
def execUnknownL2Code5 (s : State) : Host.Outcome State Fault Refusal :=
  ieOp (level2Row s.dir fun o sub n => skipArm (skipUnknown sub n o)) s

/-- SKIP (42_ie_dispatch.md R202). -/
def execSkipIe (s : State) : Host.Outcome State Fault Refusal :=
  ieOp (level2Row s.dir fun _ _ _ => bodyArm (ruleSkipIe topCall s.dir)) s

/-- HARQ_MAP (42_ie_dispatch.md R203). -/
def execHarqMap (s : State) : Host.Outcome State Fault Refusal :=
  ieOp (level2Row s.dir fun _ _ _ => bodyArm (ruleHarqMap topCall s.dir)) s

/-- HARQ_ACK_BITMAP (42_ie_dispatch.md R204). -/
def execHarqAckBitmap (s : State) : Host.Outcome State Fault Refusal :=
  ieOp (level2Row s.dir fun _ _ _ => bodyArm (ruleHarqAckBitmap topCall s.dir)) s

/-- ENHANCED_DL_MAP (42_ie_dispatch.md R205). -/
def execEnhancedDlMap (s : State) : Host.Outcome State Fault Refusal :=
  ieOp (level2Row s.dir fun _ _ _ => bodyArm (ruleEnhancedDlMap topCall s.dir)) s

/-- Sub-type 10, Unknown under the default map (42_ie_dispatch.md R182). -/
def execUnknownL2Code10 (s : State) : Host.Outcome State Fault Refusal :=
  ieOp (level2Row s.dir fun o sub n => skipArm (skipUnknown sub n o)) s

/-- Sub-type 11, Unknown under the default map (42_ie_dispatch.md R182). -/
def execUnknownL2Code11 (s : State) : Host.Outcome State Fault Refusal :=
  ieOp (level2Row s.dir fun o sub n => skipArm (skipUnknown sub n o)) s

/-- Sub-type 12, Unknown under the default map (42_ie_dispatch.md R182). -/
def execUnknownL2Code12 (s : State) : Host.Outcome State Fault Refusal :=
  ieOp (level2Row s.dir fun o sub n => skipArm (skipUnknown sub n o)) s

/-- Sub-type 13, Unknown under the default map (42_ie_dispatch.md R182). -/
def execUnknownL2Code13 (s : State) : Host.Outcome State Fault Refusal :=
  ieOp (level2Row s.dir fun o sub n => skipArm (skipUnknown sub n o)) s

/-- AAS_SDMA (42_ie_dispatch.md R206). -/
def execAasSdma (s : State) : Host.Outcome State Fault Refusal :=
  ieOp (level2Row s.dir fun _ _ _ => bodyArm (ruleAasSdma topCall s.dir)) s

/-- Sub-type 15, Unknown under the default map (42_ie_dispatch.md R182). -/
def execUnknownL2Code15 (s : State) : Host.Outcome State Fault Refusal :=
  ieOp (level2Row s.dir fun o sub n => skipArm (skipUnknown sub n o)) s

end Sys2Proof.Machine
end

