-- ==== Sys2Proof/Machine/WireSubBurst.lean ====
section
/-! DEFINITION. The meanings of the sub-burst modes (43_sub_burst.md R222, R224, R230 to R236) and of the Compact family
(42_ie_dispatch.md R213): an IE-level operation on the structure at POS (log 2, log 25). -/

namespace Sys2Proof.Machine

/-- A container from its mode field on, the mode taken to select the given layout (43_sub_burst.md R220, R222). -/
def sbModeRow (d : Dir) (l : Option Layout) : D Unit := do
  setSeq .sbMode
  containerFromMode topCall d fun _ => pure l

/-- Mode of layout CHASE (43_sub_burst.md R230). -/
def execSbChase (s : State) : Host.Outcome State Fault Refusal :=
  ieOp (sbModeRow s.dir (some .chase)) s

/-- Mode of layout IR_CTC (43_sub_burst.md R231). -/
def execSbIrCtc (s : State) : Host.Outcome State Fault Refusal :=
  ieOp (sbModeRow s.dir (some .irCtc)) s

/-- Mode of layout IR_CC (43_sub_burst.md R232). -/
def execSbIrCc (s : State) : Host.Outcome State Fault Refusal :=
  ieOp (sbModeRow s.dir (some .irCc)) s

/-- Mode of layout MIMO_CHASE (43_sub_burst.md R233). -/
def execSbMimoChase (s : State) : Host.Outcome State Fault Refusal :=
  ieOp (sbModeRow s.dir (some .mimoChase)) s

/-- Mode of layout MIMO_IR (43_sub_burst.md R234). -/
def execSbMimoIr (s : State) : Host.Outcome State Fault Refusal :=
  ieOp (sbModeRow s.dir (some .mimoIr)) s

/-- Mode of layout MIMO_IR_CC (43_sub_burst.md R235). -/
def execSbMimoIrCc (s : State) : Host.Outcome State Fault Refusal :=
  ieOp (sbModeRow s.dir (some .mimoIrCc)) s

/-- Mode of layout MIMO_STC (43_sub_burst.md R236). -/
def execSbMimoStc (s : State) : Host.Outcome State Fault Refusal :=
  ieOp (sbModeRow s.dir (some .mimoStc)) s

/-- Mode 7, Unknown under the default map (43_sub_burst.md R224). -/
def execUnknownSbMode7 (s : State) : Host.Outcome State Fault Refusal :=
  ieOp (sbModeRow s.dir none) s

/-- Mode 8, Unknown under the default map (43_sub_burst.md R224). -/
def execUnknownSbMode8 (s : State) : Host.Outcome State Fault Refusal :=
  ieOp (sbModeRow s.dir none) s

/-- Mode 9, Unknown under the default map (43_sub_burst.md R224). -/
def execUnknownSbMode9 (s : State) : Host.Outcome State Fault Refusal :=
  ieOp (sbModeRow s.dir none) s

/-- Mode 10, Unknown under the default map (43_sub_burst.md R224). -/
def execUnknownSbMode10 (s : State) : Host.Outcome State Fault Refusal :=
  ieOp (sbModeRow s.dir none) s

/-- Mode 11, Unknown under the default map (43_sub_burst.md R224). -/
def execUnknownSbMode11 (s : State) : Host.Outcome State Fault Refusal :=
  ieOp (sbModeRow s.dir none) s

/-- Mode 12, Unknown under the default map (43_sub_burst.md R224). -/
def execUnknownSbMode12 (s : State) : Host.Outcome State Fault Refusal :=
  ieOp (sbModeRow s.dir none) s

/-- Mode 13, Unknown under the default map (43_sub_burst.md R224). -/
def execUnknownSbMode13 (s : State) : Host.Outcome State Fault Refusal :=
  ieOp (sbModeRow s.dir none) s

/-- Mode 14, Unknown under the default map (43_sub_burst.md R224). -/
def execUnknownSbMode14 (s : State) : Host.Outcome State Fault Refusal :=
  ieOp (sbModeRow s.dir none) s

/-- Mode 15, Unknown under the default map (43_sub_burst.md R224). -/
def execUnknownSbMode15 (s : State) : Host.Outcome State Fault Refusal :=
  ieOp (sbModeRow s.dir none) s

/-- A Compact IE (42_ie_dispatch.md R213). -/
def execCompactIe (s : State) : Host.Outcome State Fault Refusal :=
  ieOp (do checkCompact .compact; decodeCompactIe topCall s.dir) s

end Sys2Proof.Machine
end

