-- ==== Sys2Proof/Machine/Dispatch.lean ====
section
/-! DEFINITION. One arm per instruction, each a direct call of its meaning. -/

namespace Sys2Proof.Machine

def exec (i : Instr) (s : State) : Host.Outcome State Fault Refusal :=
  match i with
  | .init start => Sys2Proof.Machine.execInit start s
  | .read w => Sys2Proof.Machine.execRead w s
  | .skip w => Sys2Proof.Machine.execSkip w s
  | .padn => Sys2Proof.Machine.execPadn s
  | .padb => Sys2Proof.Machine.execPadb s
  | .rem => Sys2Proof.Machine.execRem s
  | .pushlim n => Sys2Proof.Machine.execPushlim n s
  | .poplim => Sys2Proof.Machine.execPoplim s
  | .rcid => Sys2Proof.Machine.execRcid s
  | .crc16 => Sys2Proof.Machine.execCrc16 s
  | .crc32 => Sys2Proof.Machine.execCrc32 s
  | .verify16 => Sys2Proof.Machine.execVerify16 s
  | .verify32 => Sys2Proof.Machine.execVerify32 s
  | .ieDlLegacy => Sys2Proof.Machine.execIeDlLegacy s
  | .ieUlLegacy => Sys2Proof.Machine.execIeUlLegacy s
  | .ieDlCompact => Sys2Proof.Machine.execIeDlCompact s
  | .ieUlCompact => Sys2Proof.Machine.execIeUlCompact s
  | .msgDlMap => Sys2Proof.Machine.execMsgDlMap s
  | .msgUlMap => Sys2Proof.Machine.execMsgUlMap s
  | .msgCompactDlMap => Sys2Proof.Machine.execMsgCompactDlMap s
  | .msgCompactUlMap => Sys2Proof.Machine.execMsgCompactUlMap s
  | .msgRaasPrivateMap => Sys2Proof.Machine.execMsgRaasPrivateMap s
  | .msgReservedKind5 hi => Sys2Proof.Machine.execMsgReservedKind5 hi s
  | .msgReservedKind6 hi => Sys2Proof.Machine.execMsgReservedKind6 hi s
  | .msgReservedKind7 hi => Sys2Proof.Machine.execMsgReservedKind7 hi s
  | .reserved arg => Sys2Proof.Machine.execReserved arg s
  | .regType0 => Sys2Proof.Machine.execRegType0 s
  | .regType1 => Sys2Proof.Machine.execRegType1 s
  | .regType2 => Sys2Proof.Machine.execRegType2 s
  | .regType3 => Sys2Proof.Machine.execRegType3 s
  | .regType4 => Sys2Proof.Machine.execRegType4 s
  | .regType5 => Sys2Proof.Machine.execRegType5 s
  | .regType6 => Sys2Proof.Machine.execRegType6 s
  | .regType7 => Sys2Proof.Machine.execRegType7 s
  | .regType8 => Sys2Proof.Machine.execRegType8 s
  | .regType9 => Sys2Proof.Machine.execRegType9 s
  | .regType10 => Sys2Proof.Machine.execRegType10 s
  | .l0Unassigned11 => Sys2Proof.Machine.execL0Unassigned11 s
  | .l0Unassigned12 => Sys2Proof.Machine.execL0Unassigned12 s
  | .gapPapr => Sys2Proof.Machine.execGapPapr s
  | .extended2 => Sys2Proof.Machine.execExtended2 s
  | .extended => Sys2Proof.Machine.execExtended s
  | .extendedUplink => Sys2Proof.Machine.execExtendedUplink s
  | .channelMeasurement => Sys2Proof.Machine.execChannelMeasurement s
  | .stcZone => Sys2Proof.Machine.execStcZone s
  | .aas => Sys2Proof.Machine.execAas s
  | .dataLocationOtherBs => Sys2Proof.Machine.execDataLocationOtherBs s
  | .cidSwitch => Sys2Proof.Machine.execCidSwitch s
  | .mimoBasic => Sys2Proof.Machine.execMimoBasic s
  | .mimoEnhanced => Sys2Proof.Machine.execMimoEnhanced s
  | .harqMapPointer => Sys2Proof.Machine.execHarqMapPointer s
  | .phyModifier => Sys2Proof.Machine.execPhyModifier s
  | .unknownL1Code9 => Sys2Proof.Machine.execUnknownL1Code9 s
  | .broadcastControlPointer => Sys2Proof.Machine.execBroadcastControlPointer s
  | .puscBurstOtherSegment => Sys2Proof.Machine.execPuscBurstOtherSegment s
  | .unknownL1Code12 => Sys2Proof.Machine.execUnknownL1Code12 s
  | .unknownL1Code13 => Sys2Proof.Machine.execUnknownL1Code13 s
  | .unknownL1Code14 => Sys2Proof.Machine.execUnknownL1Code14 s
  | .interferenceNoiseLevel => Sys2Proof.Machine.execInterferenceNoiseLevel s
  | .mbsMap => Sys2Proof.Machine.execMbsMap s
  | .handoverVariant1 => Sys2Proof.Machine.execHandoverVariant1 s
  | .handoverVariant2 => Sys2Proof.Machine.execHandoverVariant2 s
  | .handoverVariant3 => Sys2Proof.Machine.execHandoverVariant3 s
  | .unknownL2Code4 => Sys2Proof.Machine.execUnknownL2Code4 s
  | .unknownL2Code5 => Sys2Proof.Machine.execUnknownL2Code5 s
  | .skipIe => Sys2Proof.Machine.execSkipIe s
  | .harqMap => Sys2Proof.Machine.execHarqMap s
  | .harqAckBitmap => Sys2Proof.Machine.execHarqAckBitmap s
  | .enhancedDlMap => Sys2Proof.Machine.execEnhancedDlMap s
  | .unknownL2Code10 => Sys2Proof.Machine.execUnknownL2Code10 s
  | .unknownL2Code11 => Sys2Proof.Machine.execUnknownL2Code11 s
  | .unknownL2Code12 => Sys2Proof.Machine.execUnknownL2Code12 s
  | .unknownL2Code13 => Sys2Proof.Machine.execUnknownL2Code13 s
  | .aasSdma => Sys2Proof.Machine.execAasSdma s
  | .unknownL2Code15 => Sys2Proof.Machine.execUnknownL2Code15 s
  | .sbChase => Sys2Proof.Machine.execSbChase s
  | .sbIrCtc => Sys2Proof.Machine.execSbIrCtc s
  | .sbIrCc => Sys2Proof.Machine.execSbIrCc s
  | .sbMimoChase => Sys2Proof.Machine.execSbMimoChase s
  | .sbMimoIr => Sys2Proof.Machine.execSbMimoIr s
  | .sbMimoIrCc => Sys2Proof.Machine.execSbMimoIrCc s
  | .sbMimoStc => Sys2Proof.Machine.execSbMimoStc s
  | .unknownSbMode7 => Sys2Proof.Machine.execUnknownSbMode7 s
  | .unknownSbMode8 => Sys2Proof.Machine.execUnknownSbMode8 s
  | .unknownSbMode9 => Sys2Proof.Machine.execUnknownSbMode9 s
  | .unknownSbMode10 => Sys2Proof.Machine.execUnknownSbMode10 s
  | .unknownSbMode11 => Sys2Proof.Machine.execUnknownSbMode11 s
  | .unknownSbMode12 => Sys2Proof.Machine.execUnknownSbMode12 s
  | .unknownSbMode13 => Sys2Proof.Machine.execUnknownSbMode13 s
  | .unknownSbMode14 => Sys2Proof.Machine.execUnknownSbMode14 s
  | .unknownSbMode15 => Sys2Proof.Machine.execUnknownSbMode15 s
  | .rcidN16 => Sys2Proof.Machine.execRcidN16 s
  | .rcidP1 => Sys2Proof.Machine.execRcidP1 s
  | .rcidP0_11 => Sys2Proof.Machine.execRcidP0_11 s
  | .rcidP0_7 => Sys2Proof.Machine.execRcidP0_7 s
  | .rcidP0_3 => Sys2Proof.Machine.execRcidP0_3 s
  | .trailer16 => Sys2Proof.Machine.execTrailer16 s
  | .trailer32 => Sys2Proof.Machine.execTrailer32 s
  | .compactIe => Sys2Proof.Machine.execCompactIe s
  | .rd48 => Sys2Proof.Machine.execRd48 s
  | .rd64 => Sys2Proof.Machine.execRd64 s
  | .readn k => Sys2Proof.Machine.execReadn k s
  | .skipn k => Sys2Proof.Machine.execSkipn k s
  | .remn => Sys2Proof.Machine.execRemn s

end Sys2Proof.Machine
end

