-- ==== Sys2Proof/Machine/Fetch.lean ====
section
/-! DEFINITION. Taking a request from the host: what the block decodes, what comes into place with it, and what a request
that is no instruction answers (log 1, log 3). -/

namespace Sys2Proof.Machine

/-- `n` bits of the buffer from bit address `p` on, first bit first. -/
def bitsFrom (m : Memory) (p : Nat) : Nat → List Bool
  | 0 => []
  | n + 1 => decide (bufBit m p = 1) :: bitsFrom m (p + 1) n

/-- How many bits the decoder looks at (30_encoding.md R93, R96, R99, R101, R102). -/
def headWidth (c : Params) : WireUnit → Nat
  | .ie _ => c.doc.l0TypeBits + c.doc.subtypeBits
  | .compact _ => 0
  | .sb _ => 4
  | .rcid => 1
  | .trailer16 => 0
  | .trailer32 => 0

/-- The head of the structure at POS, no bit past the effective bound. -/
def headBits (s : State) (u : WireUnit) : List Bool := bitsFrom s.mem s.pos (min (headWidth s.cfg u) s.rem)

/-- What the decoder is to expect for a wire unit; the Reduced-CID form depends on `cid_type` (30_encoding.md R108). -/
def wireFormat (s : State) : WireUnit → WireFormat
  | .ie d => .ie d
  | .compact _ => .compact
  | .sb d => .sb d
  | .rcid => .rcid s.session.cidType
  | .trailer16 => .trailer16
  | .trailer32 => .trailer32

/-- The instruction of a request: a command word from the port, or a structure's head from the buffer at POS. -/
def fetchInstr (s : State) : Request → Except Reject Instr
  | .command w _ => decodeCmd w
  | .pseudo ws => decodePseudo ws
  | .wire u => decodeWire s.cfg (wireFormat s u) (headBits s u)

/-- The commands that the buffer and the inputs accompany (30_encoding.md R91; log 24). -/
def loadsBuffer : Instr → Bool
  | .init _ => true
  | .msgDlMap => true
  | .msgUlMap => true
  | .msgCompactDlMap => true
  | .msgCompactUlMap => true
  | .msgRaasPrivateMap => true
  | _ => false

/-- What comes into place with an instruction: the buffer and inputs of INIT and MSG, the direction and family of a wire
unit (10_state.md R42). -/
def present (i : Instr) (r : Request) (s : State) : State :=
  match r with
  | .command _ (some a) => if loadsBuffer i then s.accept a else s
  | .command _ none => s
  | .pseudo _ => s
  | .wire (.ie d) => s.setRoute d .legacy
  | .wire (.compact d) => s.setRoute d .compact
  | .wire (.sb d) => s.setRoute d s.family
  | .wire .rcid => s
  | .wire .trailer16 => s
  | .wire .trailer32 => s

/-- A structure whose head does not fit before the effective bound raises Truncated, at the level of its operation
(42_ie_dispatch.md R162, 41_reduced_cid.md R153). -/
def shortHead (u : WireUnit) (s : State) : Host.Outcome State Fault Refusal :=
  match u with
  | .ie _ => ieOp (raise .truncated) s
  | .compact _ => ieOp (raise .truncated) s
  | .sb _ => ieOp (raise .truncated) s
  | .rcid => unitOp (raise .truncated) s
  | .trailer16 => unitOp (raise .truncated) s
  | .trailer32 => unitOp (raise .truncated) s

/-- A request that is no instruction (30_encoding.md R92). -/
def rejected (e : Reject) (r : Request) (s : State) : Host.Outcome State Fault Refusal :=
  match e, r with
  | .shortHead, .wire u => shortHead u s
  | .shortHead, _ => .refused .badArgument
  | .badArgument, _ => .refused .badArgument
  | .notAPseudo, _ => .refused .notAPseudo

/-- One request. -/
def runRequest (r : Request) (s : State) : Host.Outcome State Fault Refusal :=
  match fetchInstr s r with
  | .ok i => exec i (present i r s)
  | .error e => rejected e r s

/-- The bytes of a table word, the first byte in bits 7..0. -/
def wordBytes (w : Nat) : List Byte :=
  [BitVec.ofNat 8 w, BitVec.ofNat 8 (w / 2 ^ 8), BitVec.ofNat 8 (w / 2 ^ 16), BitVec.ofNat 8 (w / 2 ^ 24)]

/-- The state with bytes at the start of a buffer of `n` bytes and the cursor on the first bit, no limit open. -/
def placeBytes (s : State) (n : Nat) (bs : List Byte) : State :=
  { s with mem := ofBytes 0 bs, len := n, start := 0, pos := 0, limstk := [], msgStartByte := 0 }

end Sys2Proof.Machine
end

