-- ==== Sys2Proof/Machine/Step.lean ====
section
/-! DEFINITION. One step of the machine, and the placing of a table word where the step fetches it. -/

namespace Sys2Proof.Machine

/-- One step: the oldest request of the port is taken and run; with none the block waits (60_exceptions.md R283;
log 15). -/
def step (s : State) : Host.Outcome State Fault Refusal :=
  match s.port with
  | [] => .next s
  | r :: rest => runRequest r { s with port := rest }

/-- The instruction of a table word placed where `step` fetches next, in the three cases of `decodeTableWord`
(log 20): a command word at the head of the port; the first bytes of a downlink legacy IE, or a Reduced-CID field under
`cid_type` = Reduced7, at POS of a buffer long enough for it, with the request to decode it. -/
def State.withFetchWord (s : State) (nbits w : Nat) : State :=
  if nbits ≤ 8 then
    { placeBytes s 300 [BitVec.ofNat 8 w] with
      session := { s.session with cidType := .reduced7 }, port := .wire .rcid :: s.port }
  else if nbits ≤ 32 then { placeBytes s 300 (wordBytes w) with port := .wire (.ie .dl) :: s.port }
  else { s with port := .command (BitVec.ofNat 36 w) none :: s.port }

end Sys2Proof.Machine
end

