-- ==== Sys2Proof/Safety.lean ====
section
/-! DEFINITION. What a state of a run satisfies, in the terms the statements use. -/

namespace Sys2Proof.Machine

/-- The cursor lies in the buffer and in every open region, regions nest, at most `LIM_DEPTH` are open, and the decode
call began at or before the cursor (10_state.md R21, R22, R23, R25, 40_bit_cursor.md R132 (b)). -/
structure State.CursorOk (s : State) : Prop where
  pos_le_total : s.pos ≤ s.total
  pos_le_limits : ∀ t ∈ s.limstk, s.pos ≤ t
  nested : s.limstk.Pairwise (· ≤ ·)
  depth : s.limstk.length ≤ s.cfg.doc.limDepth
  start_le_pos : s.start ≤ s.pos
  span_start_le : s.msgStartByte ≤ s.pos / 8

/-- The Byte Buffer is in its canonical form. -/
def State.MemOk (s : State) : Prop := memWf s.mem = true

/-- The value a record of these bits carries: the bits themselves (10_state.md R45), but a CID shorter than 16 bits is
without its prefix bit (41_reduced_cid.md R150; log 21). -/
def recordVal (m : Memory) (r : OutRec) : Nat :=
  if r.id = .cid ∧ r.len ≠ 16 then memRead m (r.off + 1) (r.len - 1) else memRead m r.off r.len

/-- Two records in the order in which they were appended: the second begins after the first, or both are one hook's, which
may emit a field and parts of it, and the second does not begin before the first (20_memory.md R72 (b)). -/
def inWireOrder (a b : OutRec) : Prop :=
  a.off + a.len ≤ b.off ∨ ∃ h, isHookOf h a.id = true ∧ isHookOf h b.id = true ∧ a.off ≤ b.off

/-- Every field record names bits already passed and carries their value, and records stand in wire order (10_state.md
R45, 20_memory.md R72). -/
structure State.RecordsOk (s : State) : Prop where
  within : ∀ r ∈ s.out, s.start ≤ r.off ∧ r.off + r.len ≤ s.pos
  value : ∀ r ∈ s.out, ∀ v, r.val = some v → v = recordVal s.mem r
  wire_order : s.out.Pairwise inWireOrder

/-- The sticky flags summarise the warnings (10_state.md R47). -/
structure State.FlagsOk (s : State) : Prop where
  crc : s.wCrc = s.warn.any fun w => decide (w.kind = .checksumMismatch)
  len : s.wLen = s.warn.any fun w => decide (w.kind = .lengthConsistency)
  unk : s.wUnk = s.warn.any fun w => decide (w.kind = .unknownVariant)

/-- Between commands the block is idle, done or stopped, and `ERR` is not 0 exactly when it is stopped; it is never the
code of ChecksumMismatch (10_state.md R43, R44, 60_exceptions.md R281, R284, R288). -/
structure State.StatusOk (s : State) : Prop where
  rests : s.state = .idle ∨ s.state = .done ∨ s.state = .stopped
  err_iff : s.state = .stopped ↔ s.err ≠ 0
  err_code : s.err = 0 ∨ s.err = 1 ∨ s.err = 2 ∨ s.err = 4

/-- All of it. -/
structure State.Inv (s : State) : Prop where
  cursor : s.CursorOk
  mem : s.MemOk
  records : s.RecordsOk
  flags : s.FlagsOk
  status : s.StatusOk

/-- How many bits an RCID takes at POS: 16 under Normal16, else the prefix and what it selects (41_reduced_cid.md R150 to
R152). -/
def State.rcidWidth (s : State) : Nat :=
  if s.session.cidType = .normal16 then 16 else rcidBits s.session.cidType (bufBit s.mem s.pos) + 1

/-- The identifier at POS (41_reduced_cid.md R150). -/
def State.rcidValue (s : State) : Nat :=
  if s.session.cidType = .normal16 then memRead s.mem s.pos 16
  else memRead s.mem (s.pos + 1) (rcidBits s.session.cidType (bufBit s.mem s.pos))

/-! ### The groups of instructions -/

/-- The kind of a MSG command (45_message_decoders.md R260). -/
def msgKindOf : Instr → Option MsgKind
  | .msgDlMap => some .dlMap
  | .msgUlMap => some .ulMap
  | .msgCompactDlMap => some .compactDlMap
  | .msgCompactUlMap => some .compactUlMap
  | .msgRaasPrivateMap => some .raasPrivateMap
  | _ => none

/-- The IE operations of the Compact family. -/
def isCompactIe : Instr → Bool
  | .compactIe => true
  | .ieDlCompact => true
  | .ieUlCompact => true
  | _ => false

/-- The commands of the cursor, RCID and checksum groups that are not INIT, with the pseudo-operations and the wire forms
that are theirs (60_exceptions.md R280). -/
def isUnitOp : Instr → Bool
  | .read _ => true
  | .skip _ => true
  | .padn => true
  | .padb => true
  | .rem => true
  | .pushlim _ => true
  | .poplim => true
  | .rcid => true
  | .crc16 => true
  | .crc32 => true
  | .verify16 => true
  | .verify32 => true
  | .rcidN16 => true
  | .rcidP1 => true
  | .rcidP0_11 => true
  | .rcidP0_7 => true
  | .rcidP0_3 => true
  | .trailer16 => true
  | .trailer32 => true
  | .rd48 => true
  | .rd64 => true
  | .readn _ => true
  | .skipn _ => true
  | .remn => true
  | _ => false

/-- The commands that are refused whatever the state (30_encoding.md R92). -/
def isReserved : Instr → Bool
  | .msgReservedKind5 _ => true
  | .msgReservedKind6 _ => true
  | .msgReservedKind7 _ => true
  | .reserved _ => true
  | _ => false

/-- The IE operations of the legacy family and the rows decoded as one: all that is in no other group. -/
def isLegacyIe (i : Instr) : Bool :=
  !isUnitOp i && !isCompactIe i && !isReserved i && !loadsBuffer i

/-! ### The rows of one shape -/

/-- The rows of format REG (30_encoding.md R94, R95). -/
def regularRows : List Instr :=
  [.regType0, .regType1, .regType2, .regType3, .regType4, .regType5, .regType6, .regType7, .regType8, .regType9,
   .regType10, .gapPapr]

/-- The Level-1 rows whose body is their hook and that write no session field, with that hook (42_ie_dispatch.md R184,
R187, R188, R192 to R196). -/
def plainRows1 : List (Instr × HookId) :=
  [(.channelMeasurement, .l1 .channelMeasurement), (.aas, .l1 .aas),
   (.dataLocationOtherBs, .l1 .dataLocationOtherBs), (.harqMapPointer, .l1 .harqMapPointer),
   (.phyModifier, .l1 .phyModifier), (.broadcastControlPointer, .l1 .broadcastControlPointer),
   (.puscBurstOtherSegment, .l1 .puscBurstOtherSegment), (.interferenceNoiseLevel, .l1 .interferenceNoiseLevel)]

/-- The Level-2 rows of the same kind (42_ie_dispatch.md R200, R202, R204 to R206). -/
def plainRows2 : List (Instr × HookId) :=
  [(.mbsMap, .l2 .mbsMap), (.skipIe, .l2 .skipIe), (.harqAckBitmap, .l2 .harqAckBitmap),
   (.enhancedDlMap, .l2 .enhancedDlMap), (.aasSdma, .l2 .aasSdma)]

/-- The "unimplemented passthrough" rows of each level (42_ie_dispatch.md R183, R190, R191, R201). -/
def passRows1 : List Instr := [.mimoBasic, .mimoEnhanced]
def passRows2 : List Instr := [.handoverVariant1, .handoverVariant2, .handoverVariant3]

/-- The rows of unknown sub-types (42_ie_dispatch.md R182). -/
def unknownRows1 : List Instr := [.unknownL1Code9, .unknownL1Code12, .unknownL1Code13, .unknownL1Code14]
def unknownRows2 : List Instr :=
  [.unknownL2Code4, .unknownL2Code5, .unknownL2Code10, .unknownL2Code11, .unknownL2Code12, .unknownL2Code13,
   .unknownL2Code15]

/-- Every row of Level 1, and of Level 2, but the escapes themselves. -/
def level1Rows : List Instr := plainRows1.map Prod.fst ++ [.stcZone, .cidSwitch] ++ passRows1 ++ unknownRows1
def level2Rows : List Instr := plainRows2.map Prod.fst ++ [.harqMap] ++ passRows2 ++ unknownRows2

/-- The rows of the seven sub-burst layouts (43_sub_burst.md R230 to R236). -/
def layoutRows : List (Instr × Layout) :=
  [(.sbChase, .chase), (.sbIrCtc, .irCtc), (.sbIrCc, .irCc), (.sbMimoChase, .mimoChase), (.sbMimoIr, .mimoIr),
   (.sbMimoIrCc, .mimoIrCc), (.sbMimoStc, .mimoStc)]

/-- The rows of unknown sub-burst modes (43_sub_burst.md R224). -/
def unknownModeRows : List Instr :=
  [.unknownSbMode7, .unknownSbMode8, .unknownSbMode9, .unknownSbMode10, .unknownSbMode11, .unknownSbMode12,
   .unknownSbMode13, .unknownSbMode14, .unknownSbMode15]

/-! ### What an operation that ends leaves -/

/-- The record of a field that is there: `w` bits at `off` (10_state.md R45). -/
def State.fieldRec (s : State) (id : FieldId) (off w : Nat) : OutRec :=
  { id := id, off := off, len := w, val := some (memRead s.mem off w) }

/-- The record of a stretch of bits passed over. -/
def passRec (id : FieldId) (off n : Nat) : OutRec := { id := id, off := off, len := n, val := none }

/-- A state a unit operation leaves: the cursor at `p`, the answer `r`, all else as it was. -/
def State.unitEnds (s : State) (p : Nat) (r : Response) : State := { s with pos := p, result := r }

/-- A state an IE operation leaves that ended ok at `p` having emitted `recs`, all else as it was (42_ie_dispatch.md
R160). -/
def State.ieEnds (s : State) (p : Nat) (recs : List OutRec) : State :=
  { s with
    pos := p, out := s.out ++ recs, state := .done, err := 0, errPos := 0, consumed := p - s.start, result := .done }

/-- A state an IE operation leaves that stopped with `e` at `p` having emitted `recs`, all else as it was
(60_exceptions.md R284). -/
def State.ieStops (s : State) (e : ErrKind) (p : Nat) (recs : List OutRec) : State :=
  { s with
    pos := p, out := s.out ++ recs, state := .stopped, err := errCode e, errPos := p, consumed := p - s.start
    result := .error e p }

/-- A warning added to a state: its record and its sticky flag (10_state.md R46, R47). -/
def State.warned (s : State) (k : WarnKind) (off info : Nat) : State :=
  { s with
    warn := s.warn ++ [{ kind := k, off := off, info := info }]
    wCrc := s.wCrc || decide (k = .checksumMismatch)
    wLen := s.wLen || decide (k = .lengthConsistency)
    wUnk := s.wUnk || decide (k = .unknownVariant) }

/-! ### An Extended or Extended-2 IE at POS whose length field has `w` bits (30_encoding.md R96, R97, R99) -/

/-- The width of the length field of Level 1 in the direction of `dir`; none where the parameter is not supplied. -/
def State.l1LenBits (s : State) : Option Nat :=
  match s.dir with
  | .dl => some s.cfg.doc.l1LenBitsDl
  | .ul => s.cfg.l1LenBitsUl

/-- The width of the length field of Level 2. -/
abbrev State.l2LenBits (s : State) : Nat := s.cfg.doc.l2LenBits

/-- The first bit of the sub-type field, after the type field. -/
def State.subAt (s : State) : Nat := s.pos + s.cfg.doc.l0TypeBits

/-- The first bit of the length field. -/
def State.lenAt (s : State) : Nat := s.subAt + s.cfg.doc.subtypeBits

/-- The first bit of the body. -/
def State.bodyStart (s : State) (w : Nat) : Nat := s.lenAt + w

/-- The declared length in bits (30_encoding.md R105). -/
def State.bodyBits (s : State) (w : Nat) : Nat := memRead s.mem s.lenAt w * s.cfg.lenUnitBits

/-- The first bit after the body. -/
def State.bodyEnd (s : State) (w : Nat) : Nat := s.bodyStart w + s.bodyBits w

/-- The sub-type. -/
def State.subtypeAt (s : State) : Nat := memRead s.mem s.subAt s.cfg.doc.subtypeBits

/-- The three records of the header. -/
def State.extHeader (s : State) (w : Nat) : List OutRec :=
  [s.fieldRec .l0Type s.pos s.cfg.doc.l0TypeBits, s.fieldRec .subtype s.subAt s.cfg.doc.subtypeBits,
   s.fieldRec .length s.lenAt w]

/-- The inputs are legal and the three fields of the header are no wider than one READ; at the documented parameters
(00_scope.md R6) the first two always are. -/
structure State.ExtLegal (s : State) (w : Nat) : Prop where
  legal : s.inp.cqichIdWidth.toNat ≤ 9
  type_width : s.cfg.doc.l0TypeBits ≤ s.cfg.doc.readMaxBits
  subtype_width : s.cfg.doc.subtypeBits ≤ s.cfg.doc.readMaxBits
  length_width : w ≤ s.cfg.doc.readMaxBits

/-- And there is room for one more limit, and the IE lies in the buffer and in its region. -/
structure State.ExtFits (s : State) (w : Nat) : Prop extends s.ExtLegal w where
  room : s.limstk.length < s.cfg.doc.limDepth
  inside : s.bodyEnd w ≤ s.effBound

/-! ### Runs -/

/-- A run of the machine from a state never faults within `n` steps. -/
def neverFaults (n : Nat) (s : State) : Prop :=
  match n, step s with
  | 0, _ => True
  | k + 1, .next t => neverFaults k t
  | _ + 1, .fault _ => False
  | _ + 1, .refused _ => True

end Sys2Proof.Machine
end

