-- ==== Sys2Proof/Certificates/Slice0/Obligations.lean ====
section
/-! DEFINITION. The statements for the provers. Each says which rule of spec/ it formalises; where one rests on a choice of
the model, its docstring names the log entry. -/

open Sys2Proof Sys2Proof.Machine

/-! ### Encoding -/

/-- Decoding the code of a well-formed instruction gives it back, every operand at every value its encoding admits
(30_encoding.md R91 to R104, R111; the default parameters, with the maps of R98, R100, R101). -/
def Obligations.EncodeThenDecode : Prop := ∀ i : Instr, i.wf = true → decode Params.default (encode i) = .ok i

/-- A command word that decodes is the word its instruction encodes to: no bit of a command word is dropped
(30_encoding.md R91). -/
def Obligations.DecodeThenEncodeCommand : Prop := ∀ (w : CmdWord) (i : Instr), decodeCmd w = .ok i → encode i = .cmd w

/-- A few words written out from the tables of 30_encoding.md R91, R93, R96, R99, R101, R102 decode to their rows. -/
def Obligations.SampleWordsDecode : Prop :=
  decodeCmd 0x100000020#36 = .ok (.read 32) ∧
    decodeCmd 0x600000010#36 = .ok (.pushlim 16) ∧
    decodeCmd 0xD00000003#36 = .ok .ieUlCompact ∧
    decodeCmd 0xE00000004#36 = .ok .msgRaasPrivateMap ∧
    decodeWire Params.default (.ie .dl) [false, true, true, true] = .ok .regType7 ∧
    decodeWire Params.default (.ie .dl) [true, true, true, true, false, true, false, false] = .ok .cidSwitch ∧
    decodeWire Params.default (.ie .ul) [true, true, true, true] = .ok .extendedUplink ∧
    decodeWire Params.default (.ie .dl) [true, true, true, false, false, true, true, true] = .ok .harqMap ∧
    decodeWire Params.default (.sb .dl) [false, true, true, false] = .ok .sbMimoStc ∧
    decodeWire Params.default (.rcid .reduced7) [true] = .ok .rcidP1

/-! ### The step -/

/-- A step takes the oldest request of the port and runs the instruction it decodes to: a command word of the port, with
the buffer and inputs that accompany INIT and MSG coming into place (30_encoding.md R91), or the head of a structure at
POS; an empty port changes nothing (60_exceptions.md R283). Requests are the model's own (log 1, log 3, log 15). -/
def Obligations.StepRunsTheRequest : Prop :=
  (∀ s : State, s.port = [] → step s = .next s) ∧
    (∀ (s : State) (r : Request) (rest : List Request) (i : Instr),
      s.port = r :: rest → fetchInstr s r = .ok i → step s = exec i (present i r { s with port := rest })) ∧
    (∀ (s : State) (w : CmdWord) (rest : List Request) (i : Instr),
      s.port = .command w none :: rest → decodeCmd w = .ok i → step s = exec i { s with port := rest }) ∧
    ∀ (s : State) (w : CmdWord) (a : Accompaniment) (rest : List Request) (i : Instr),
      s.port = .command w (some a) :: rest → decodeCmd w = .ok i → loadsBuffer i = true →
        step s =
          exec i
            { s with
              port := rest, mem := ofBytes 0 a.bytes, altSamples := a.altSamples
              inp :=
                { len := a.bytes.length, start := a.start, msgLenBits := a.msgLenBits, cqichIdWidth := a.cqichIdWidth
                  includeCor2Changes := a.includeCor2Changes } }

/-- What has no next state (30_encoding.md R92, R107): op 0xF, the message kinds above 4, READ of more than 32 bits, and
any word whose must-be-zero bits are not zero; and which words those are (R91): READ above bit 5, the commands without
operand anywhere, IE above bit 1, the five messages above bit 2. -/
def Obligations.ReservedCommandsAreRefused : Prop :=
  (∀ (a : BitVec 32) (s : State), exec (.reserved a) s = .refused .reservedOp) ∧
    (∀ (w : BitVec 6) (s : State), s.cfg.doc.readMaxBits = 32 → 32 < w.toNat →
      exec (.read w) s = .refused .invalidWidth) ∧
    (∀ (hi : BitVec 29) (s : State),
      exec (.msgReservedKind5 hi) s = .refused .badArgument ∧
        exec (.msgReservedKind6 hi) s = .refused .badArgument ∧
        exec (.msgReservedKind7 hi) s = .refused .badArgument) ∧
    (∀ (s : State) (w : CmdWord) (a : Option Accompaniment) (rest : List Request),
      s.port = .command w a :: rest → decodeCmd w = .error .badArgument → step s = .refused .badArgument) ∧
    ∀ (op : BitVec 4) (arg : BitVec 32),
      decodeCmd (cmdWord op arg) = .error .badArgument ↔
        (op = 1 ∧ 64 ≤ arg.toNat) ∨
          (op ∈ [3, 4, 5, 7, 8, 9, 10, 11, 12] ∧ arg ≠ 0) ∨
          (op = 13 ∧ 4 ≤ arg.toNat) ∨ (op = 14 ∧ 8 ≤ arg.toNat ∧ arg.toNat % 8 ≤ 4)

/-! ### The Bit Cursor -/

/-- INIT (40_bit_cursor.md R120). -/
def Obligations.InitLoadsTheCursor : Prop :=
  ∀ (p : BitVec 32) (s : State),
    exec (.init p) s =
      if s.tooLong = true ∨ 8 * s.inp.len < p.toNat then .refused .badInit
      else
        .next
          { s with
            len := s.inp.len, start := p.toNat, pos := p.toNat, limstk := [], msgStartByte := p.toNat / 8
            out := [], warn := [], wCrc := false, wLen := false, wUnk := false
            err := 0, errPos := 0, consumed := 0, state := .idle, result := .done }

/-- READ and READN (40_bit_cursor.md R121, R131); READ_MAX_BITS is 32 in the document, a parameter (00_scope.md R6). -/
def Obligations.ReadReturnsTheField : Prop :=
  (∀ (w : BitVec 6) (s : State),
    exec (.read w) s =
      if s.cfg.doc.readMaxBits < w.toNat then .refused .invalidWidth
      else if s.effBound < s.pos + w.toNat then .next (s.unitEnds s.pos (.error .truncated s.pos))
      else .next (s.unitEnds (s.pos + w.toNat) (.value (memRead s.mem s.pos w.toNat)))) ∧
    ∀ (k : Nat) (s : State), 4 * k ≤ s.cfg.doc.readMaxBits →
      exec (.readn k) s =
        if s.effBound < s.pos + 4 * k then .next (s.unitEnds s.pos (.error .truncated s.pos))
        else .next (s.unitEnds (s.pos + 4 * k) (.value (memRead s.mem s.pos (4 * k))))

/-- SKIP and SKIPN (40_bit_cursor.md R122, R131). -/
def Obligations.SkipMovesTheCursor : Prop :=
  (∀ (w : BitVec 32) (s : State),
    exec (.skip w) s =
      if s.effBound < s.pos + w.toNat then .next (s.unitEnds s.pos (.error .truncated s.pos))
      else .next (s.unitEnds (s.pos + w.toNat) .done)) ∧
    ∀ (k : Nat) (s : State), 4 * k < 2 ^ 32 →
      exec (.skipn k) s =
        if s.effBound < s.pos + 4 * k then .next (s.unitEnds s.pos (.error .truncated s.pos))
        else .next (s.unitEnds (s.pos + 4 * k) .done)

/-- PADN and PADB (40_bit_cursor.md R123, R124): to the next multiple of 4, of 8, or nowhere; with no limit open, PADB
answers wherever the cursor lies in the buffer. -/
def Obligations.PadsReachTheBoundary : Prop :=
  ∀ s : State,
    let d4 := (4 - s.pos % 4) % 4
    let d8 := (8 - s.pos % 8) % 8
    (exec .padn s =
        if s.effBound < s.pos + d4 then .next (s.unitEnds s.pos (.error .truncated s.pos))
        else .next (s.unitEnds (s.pos + d4) .done)) ∧
      (exec .padb s =
        if s.effBound < s.pos + d8 then .next (s.unitEnds s.pos (.error .truncated s.pos))
        else .next (s.unitEnds (s.pos + d8) .done)) ∧
      d4 < 4 ∧ (s.pos + d4) % 4 = 0 ∧ d8 < 8 ∧ (s.pos + d8) % 8 = 0 ∧
      (s.limstk = [] → s.pos ≤ s.total → s.pos + d8 ≤ s.effBound)

/-- REM and REMN (40_bit_cursor.md R125, R131). -/
def Obligations.RemainingBits : Prop :=
  ∀ s : State,
    exec .rem s = .next (s.unitEnds s.pos (.value (s.effBound - s.pos))) ∧
      exec .remn s = .next (s.unitEnds s.pos (.value ((s.effBound - s.pos) / 4)))

/-- PUSHLIM (40_bit_cursor.md R126): the depth, 4 in the document (00_scope.md R6), first, then the parent's declared
limit. -/
def Obligations.PushLimitOpensARegion : Prop :=
  ∀ (n : BitVec 32) (s : State),
    exec (.pushlim n) s =
      if s.cfg.doc.limDepth ≤ s.limstk.length then .refused .limitOverflow
      else if ∃ b ∈ s.limstk.head?, b < s.pos + n.toNat then
        .next (s.unitEnds s.pos (.error .inconsistentLength s.pos))
      else .next { s with limstk := (s.pos + n.toNat) :: s.limstk, result := .done }

/-- POPLIM (40_bit_cursor.md R127). -/
def Obligations.PopLimitClosesARegion : Prop :=
  ∀ s : State,
    (s.limstk = [] → exec .poplim s = .refused .limitUnderflow) ∧
      ∀ b l, s.limstk = b :: l → exec .poplim s = .next { s with limstk := l, result := .done }

/-- RD48 and RD64 (40_bit_cursor.md R129, R130): two READs in wire order, not atomic. -/
def Obligations.DoubleReads : Prop :=
  ∀ p ∈ [(Instr.rd48, 16), (Instr.rd64, 32)], ∀ s : State, 32 ≤ s.cfg.doc.readMaxBits →
    exec p.1 s =
      if s.effBound < s.pos + 32 then .next (s.unitEnds s.pos (.error .truncated s.pos))
      else if s.effBound < s.pos + 32 + p.2 then
        .next (s.unitEnds (s.pos + 32) (.error .truncated (s.pos + 32)))
      else
        .next
          (s.unitEnds (s.pos + 32 + p.2)
            (.value (memRead s.mem s.pos 32 * 2 ^ p.2 + memRead s.mem (s.pos + 32) p.2)))

/-- A byte-aligned field of 16 or 32 bits is big-endian (20_memory.md R62, R63). -/
def Obligations.AlignedFieldsAreBigEndian : Prop :=
  ∀ (m : Memory) (k : Nat),
    memRead m (8 * k) 16 = (readByte m k).toNat * 256 + (readByte m (k + 1)).toNat ∧
      memRead m (8 * k) 32 =
        (readByte m k).toNat * 2 ^ 24 + (readByte m (k + 1)).toNat * 2 ^ 16 + (readByte m (k + 2)).toNat * 2 ^ 8 +
          (readByte m (k + 3)).toNat

/-! ### The Reduced-CID Decoder -/

/-- RCID (41_reduced_cid.md R150, R153 (a)): the widths by `cid_type` and the prefix, the prefix override, and that it is
two READs and not atomic. -/
def Obligations.RcidFollowsTheSession : Prop :=
  ∀ s : State, 16 ≤ s.cfg.doc.readMaxBits →
    exec .rcid s =
      if s.session.cidType = .normal16 then
        if s.effBound < s.pos + 16 then .next (s.unitEnds s.pos (.error .truncated s.pos))
        else .next (s.unitEnds (s.pos + 16) (.cid (memRead s.mem s.pos 16) 16))
      else if s.effBound < s.pos + 1 then .next (s.unitEnds s.pos (.error .truncated s.pos))
      else
        let n :=
          if memRead s.mem s.pos 1 = 1 then 11
          else if s.session.cidType = .reduced11 then 11
          else if s.session.cidType = .reduced7 then 7
          else 3
        if s.effBound < s.pos + 1 + n then .next (s.unitEnds (s.pos + 1) (.error .truncated (s.pos + 1)))
        else .next (s.unitEnds (s.pos + 1 + n) (.cid (memRead s.mem (s.pos + 1) n) (n + 1)))

/-- The five RCID forms and the two trailers on the wire (30_encoding.md R102, R103): a form reads its prefix and its
identifier, or stops Truncated at the read that does not fit; a trailer answers as the VERIFY of its width and completes
where it fits. A form is a row of the table that the model can run by itself (log 2). That TRAILER16 answers where
`CRC16_REFLECT` is not supplied is the model's choice (log 10). -/
def Obligations.WireFormsRead : Prop :=
  (∀ s : State, 16 ≤ s.cfg.doc.readMaxBits →
    exec .rcidN16 s =
      if s.effBound < s.pos + 16 then .next (s.unitEnds s.pos (.error .truncated s.pos))
      else .next (s.unitEnds (s.pos + 16) (.cid (memRead s.mem s.pos 16) 16))) ∧
    (∀ p ∈ [(Instr.rcidP1, 11), (Instr.rcidP0_11, 11), (Instr.rcidP0_7, 7), (Instr.rcidP0_3, 3)],
      ∀ s : State, 11 ≤ s.cfg.doc.readMaxBits →
        exec p.1 s =
          if s.effBound < s.pos + 1 then .next (s.unitEnds s.pos (.error .truncated s.pos))
          else if s.effBound < s.pos + 1 + p.2 then
            .next (s.unitEnds (s.pos + 1) (.error .truncated (s.pos + 1)))
          else .next (s.unitEnds (s.pos + 1 + p.2) (.cid (memRead s.mem (s.pos + 1) p.2) (p.2 + 1)))) ∧
    ∀ p ∈ [(Instr.trailer16, Instr.verify16, FieldId.trailer16, 16), (.trailer32, .verify32, .trailer32, 32)],
      ∀ s : State,
        exec p.1 s = exec p.2.1 s ∧
          (32 ≤ s.cfg.doc.readMaxBits → s.pos ≤ s.total → s.pos + p.2.2.2 ≤ s.effBound →
            ∃ t, exec p.1 s = .next t ∧ t.pos = s.pos + p.2.2.2 ∧
              t.out = s.out ++ [s.fieldRec p.2.2.1 s.pos p.2.2.2])

/-- The width an RCID consumes is one of 4, 8, 12, 16, and the identifier fits what is left of it (41_reduced_cid.md
R151). -/
def Obligations.RcidWidthIsOneOfFour : Prop :=
  ∀ (s t : State) (c w : Nat), exec .rcid s = .next t → t.result = .cid c w →
    w ∈ [4, 8, 12, 16] ∧ t.pos = s.pos + w ∧ c < 2 ^ (if w = 16 then 16 else w - 1)

/-! ### The Checksum Validator -/

/-- CRC16 and CRC32 over the span of 44_checksum.md R246 (R247, R248): the value is returned, and no state changes but the
operation's own accumulator. That CRC16 answers where `CRC16_REFLECT` is not supplied is the model's choice (log 10). -/
def Obligations.ChecksumsCoverTheSpan : Prop :=
  ∀ s : State, s.pos ≤ s.total →
    let span := (List.range' s.msgStartByte (s.pos / 8 - s.msgStartByte)).map (readByte s.mem)
    let v16 := (crc16 s.cfg.doc.crc16Poly s.crc16Reflect span).toNat
    let v32 := (crc32 s.cfg.doc.crc32Poly s.cfg.crc32Reflect span).toNat
    (∃ a, exec .crc16 s = .next { s with acc16 := a, result := .value v16 }) ∧
      ∃ a, exec .crc32 s = .next { s with acc32 := a, result := .value v32 }

/-- VERIFY16 (44_checksum.md R249): the trailer is read and emitted; a mismatch is a warning and the operation still ends
ok; a trailer that does not fit is Truncated with nothing emitted. That it answers where `CRC16_REFLECT` is not supplied is
the model's choice (log 10). -/
def Obligations.VerifySixteen : Prop :=
  ∀ s : State, 16 ≤ s.cfg.doc.readMaxBits → s.pos ≤ s.total →
    let span := (List.range' s.msgStartByte (s.pos / 8 - s.msgStartByte)).map (readByte s.mem)
    let sum := (crc16 s.cfg.doc.crc16Poly s.crc16Reflect span).toNat
    let t := memRead s.mem s.pos 16
    ∃ a,
      let u := { s with acc16 := a }
      let v := { u with pos := s.pos + 16, out := s.out ++ [s.fieldRec .trailer16 s.pos 16] }
      exec .verify16 s =
        if s.effBound < s.pos + 16 then .next (u.unitEnds s.pos (.error .truncated s.pos))
        else if t = sum then .next { v with result := .flag true }
        else .next { v.warned .checksumMismatch s.pos sum with result := .flag false }

/-- VERIFY32 (44_checksum.md R250), as VERIFY16 with `crc32` and 32 bits. -/
def Obligations.VerifyThirtyTwo : Prop :=
  ∀ s : State, 32 ≤ s.cfg.doc.readMaxBits → s.pos ≤ s.total →
    let span := (List.range' s.msgStartByte (s.pos / 8 - s.msgStartByte)).map (readByte s.mem)
    let sum := (crc32 s.cfg.doc.crc32Poly s.cfg.crc32Reflect span).toNat
    let t := memRead s.mem s.pos 32
    ∃ a,
      let u := { s with acc32 := a }
      let v := { u with pos := s.pos + 32, out := s.out ++ [s.fieldRec .trailer32 s.pos 32] }
      exec .verify32 s =
        if s.effBound < s.pos + 32 then .next (u.unitEnds s.pos (.error .truncated s.pos))
        else if t = sum then .next { v with result := .flag true }
        else .next { v.warned .checksumMismatch s.pos sum with result := .flag false }

/-- The table-driven byte steps are eight bit steps, and each reflected table is the bit reversal of the other
(44_checksum.md R240, R242, R244), whatever the polynomials are; the documented ones are in the default parameters
(00_scope.md R6). -/
def Obligations.ChecksumTablesAreBitSteps : Prop :=
  (∀ (p acc : BitVec 32) (d : Byte),
    crc32Byte p true acc d = eightTimes (crc32Bit p true) (acc ^^^ d.setWidth 32) ∧
      crc32Byte p false acc d = eightTimes (crc32Bit p false) (acc ^^^ (d.setWidth 32 <<< 24))) ∧
    (∀ (p acc : BitVec 16) (d : Byte),
      crc16Byte p true acc d = eightTimes (crc16Bit p true) (acc ^^^ d.setWidth 16) ∧
        crc16Byte p false acc d = eightTimes (crc16Bit p false) (acc ^^^ (d.setWidth 16 <<< 8))) ∧
    (∀ (p : BitVec 32) (q : BitVec 16) (i : BitVec 8),
      t32 p true i = (t32 p false i.reverse).reverse ∧ t16 q true i = (t16 q false i.reverse).reverse) ∧
    Params.default.doc.crc32Poly = 0x04C11DB7 ∧ Params.default.doc.crc16Poly = 0x1021

/-! ### Level 0 of the dispatch -/

/-- A regular IE without a CID list (42_ie_dispatch.md R167, R169): how far it gets, what it emits, and that its body is
doubled under `alt_format`; a read that does not fit stops it. The rows run by themselves (log 2); `alt_format` is the
next sample the host fixed, or any value (10_state.md R41, log 6). -/
def Obligations.RegularIe : Prop :=
  ∀ i ∈ regularRows, ∀ s : State, s.cfg.doc = {} → s.inp.cqichIdWidth.toNat ≤ 9 →
    ¬(s.family = .legacy ∧ s.dir = .dl ∧ s.session.incCid = true) →
    let r0 := s.fieldRec .l0Type s.pos 4
    let r1 := s.fieldRec (.regBody 0) (s.pos + 4) 32
    let r2 := s.fieldRec (.regBody 1) (s.pos + 36) 32
    (s.effBound < s.pos + 4 → exec i s = .next (s.ieStops .truncated s.pos [])) ∧
      (s.pos + 4 ≤ s.effBound → ∀ alt l, s.altSamples = alt :: l →
        exec i s =
          .next
            { (if s.effBound < s.pos + 36 then s.ieStops .truncated (s.pos + 4) [r0]
              else if alt = false then s.ieEnds (s.pos + 36) [r0, r1]
              else if s.effBound < s.pos + 68 then s.ieStops .truncated (s.pos + 36) [r0, r1]
              else s.ieEnds (s.pos + 68) [r0, r1, r2]) with
              altSamples := l }) ∧
      (s.pos + 4 ≤ s.effBound → s.altSamples = [] →
        ∃ alt t, exec i { s with altSamples := [alt] } = .next t ∧
          exec i s = .next { t with draws := s.draws + 1 })

/-- A regular IE of a legacy downlink map with `inc_cid` = 1 (42_ie_dispatch.md R167, R218 (b)): where even the longest
list would fit, it ends ok, having emitted its count, that many CID records and one or two body words, and consumed
exactly their bits. A row run by itself is log 2. -/
def Obligations.RegularIeWithCidList : Prop :=
  ∀ i ∈ regularRows, ∀ s : State, s.cfg.doc = {} → s.inp.cqichIdWidth.toNat ≤ 9 →
    s.family = .legacy → s.dir = .dl → s.session.incCid = true → s.cfg.ncidBits ≤ 32 →
    let n := memRead s.mem (s.pos + 4) s.cfg.ncidBits
    s.pos + 4 + s.cfg.ncidBits + 16 * n + 64 ≤ s.effBound →
      ∃ (t : State) (cids bodies : List OutRec),
        exec i s = .next t ∧ t.state = .done ∧ t.err = 0 ∧ t.session = s.session ∧ t.limstk = s.limstk ∧
          t.warn = s.warn ∧ cids.length = n ∧ (∀ r ∈ cids, r.id = .cid ∧ r.len ∈ [4, 8, 12, 16]) ∧
          bodies.map OutRec.id ∈ [[FieldId.regBody 0], [FieldId.regBody 0, FieldId.regBody 1]] ∧
          (∀ alt l, s.altSamples = alt :: l → bodies.length = if alt = true then 2 else 1) ∧
          t.out =
            s.out ++ [s.fieldRec .l0Type s.pos 4, s.fieldRec .nCid (s.pos + 4) s.cfg.ncidBits] ++ cids ++ bodies ∧
          t.pos = s.pos + 4 + s.cfg.ncidBits + (cids.map OutRec.len).sum + 32 * bodies.length

/-- Level-0 codes 11 and 12 (42_ie_dispatch.md R168): under the policy `stop` a warning and then the error UnknownVariant
after the type field; under `regular` a regular IE. A row run by itself is log 2. -/
def Obligations.UnassignedCodes : Prop :=
  ∀ i ∈ [Instr.l0Unassigned11, Instr.l0Unassigned12], ∀ s : State,
    (s.cfg.l0Unassigned = .regular → exec i s = exec .regType0 s) ∧
      (s.cfg.l0Unassigned = .stop → s.cfg.doc = {} → s.inp.cqichIdWidth.toNat ≤ 9 → s.pos + 4 ≤ s.effBound →
        exec i s =
          .next
            ((s.ieStops .unknownVariant (s.pos + 4) [s.fieldRec .l0Type s.pos 4]).warned .unknownVariant s.pos
              (memRead s.mem s.pos 4)))

/-! ### Level 1 and Level 2 -/

/-- Level-1 and Level-2 kinds whose body is their hook and that write no session field (42_ie_dispatch.md R184, R187,
R188, R192 to R196, R200, R202, R204 to R206), with the default hook "opaque body" (R181): the body is one byte-string
record, the cursor ends on the declared end, and nothing else changes. A row run by itself is log 2. -/
def Obligations.PlainKindsAreOneRecord : Prop :=
  (∀ p ∈ plainRows1, ∀ (s : State) (w : Nat), s.l1LenBits = some w → s.ExtFits w → s.cfg.hooks.lookup p.2 = none →
    exec p.1 s =
      .next (s.ieEnds (s.bodyEnd w) (s.extHeader w ++ [passRec (.body p.2) (s.bodyStart w) (s.bodyBits w)]))) ∧
    ∀ p ∈ plainRows2, ∀ s : State, s.ExtFits s.l2LenBits → s.cfg.hooks.lookup p.2 = none →
      exec p.1 s =
        .next
          (s.ieEnds (s.bodyEnd s.l2LenBits)
            (s.extHeader s.l2LenBits ++
              [passRec (.body p.2) (s.bodyStart s.l2LenBits) (s.bodyBits s.l2LenBits)]))

/-- A hook that stops short (42_ie_dispatch.md R173): where it passes over `k` bits of its body and leaves the rest, Close
passes over the rest and warns LengthConsistency, with the number of bits, at the first of them, unless there are none.
Hooks are programs in the model (log 5), a row run by itself is log 2. -/
def Obligations.CloseSkipsWhatTheHookLeft : Prop :=
  ∀ (s : State) (k : Nat) (h : HookDef), h = { prog := .skip (.lit k) none } ∨ h = { prog := .nop } ∧ k = 0 →
    (∀ p ∈ plainRows1, ∀ w : Nat, s.l1LenBits = some w → s.ExtFits w → k ≤ s.bodyBits w →
      s.cfg.hooks.lookup p.2 = some h →
        let t := s.ieEnds (s.bodyEnd w) (s.extHeader w)
        exec p.1 s =
          .next
            (if s.bodyBits w = k then t
            else t.warned .lengthConsistency (s.bodyStart w + k) (s.bodyBits w - k))) ∧
      ∀ p ∈ plainRows2, s.ExtFits s.l2LenBits → k ≤ s.bodyBits s.l2LenBits → s.cfg.hooks.lookup p.2 = some h →
        let t := s.ieEnds (s.bodyEnd s.l2LenBits) (s.extHeader s.l2LenBits)
        exec p.1 s =
          .next
            (if s.bodyBits s.l2LenBits = k then t
            else t.warned .lengthConsistency (s.bodyStart s.l2LenBits + k) (s.bodyBits s.l2LenBits - k))

/-- STC_ZONE (42_ie_dispatch.md R186): with a hook that passes over the body and returns two numbers, they become the two
STC-zone fields and no other session field changes; with the default hook the two become unspecified, any value (R181,
log 7). -/
def Obligations.StcZoneWritesTheSession : Prop :=
  ∀ (s : State) (w : Nat), s.l1LenBits = some w → s.ExtFits w →
    (∀ m p : Nat,
      s.cfg.hooks.lookup (.l1 .stcZone) =
          some { prog := .skip .drem none, rets := [some (.lit m), some (.lit p)] } →
        exec .stcZone s =
          .next
            { s.ieEnds (s.bodyEnd w) (s.extHeader w) with
              session := { s.session with stcZoneMatrix := m, stcZoneDedicatedPilots := p } }) ∧
      (s.cfg.hooks.lookup (.l1 .stcZone) = none →
        ∃ m p : Nat,
          exec .stcZone s =
            .next
              { s.ieEnds (s.bodyEnd w)
                  (s.extHeader w ++ [passRec (.body (.l1 .stcZone)) (s.bodyStart w) (s.bodyBits w)]) with
                session := { s.session with stcZoneMatrix := m, stcZoneDedicatedPilots := p }
                draws := s.draws + 2 })

/-- CID_SWITCH (42_ie_dispatch.md R189): the body is passed over, then `inc_cid` flips. A row run by itself is log 2. -/
def Obligations.CidSwitchFlipsIncCid : Prop :=
  ∀ (s : State) (w : Nat), s.l1LenBits = some w → s.ExtFits w →
    exec .cidSwitch s =
      .next
        { s.ieEnds (s.bodyEnd w)
            (s.extHeader w ++ [passRec (.body (.l1 .cidSwitch)) (s.bodyStart w) (s.bodyBits w)]) with
          session := { s.session with incCid := !s.session.incCid } }

/-- The "unimplemented passthrough" kinds (42_ie_dispatch.md R183, R190, R191, R201): passed over by the declared length,
no warning, no session field written. A row run by itself is log 2. -/
def Obligations.UnimplementedKindsAreSkipped : Prop :=
  (∀ i ∈ passRows1, ∀ (s : State) (w : Nat), s.l1LenBits = some w → s.ExtFits w →
    exec i s =
      .next
        (s.ieEnds (s.bodyEnd w) (s.extHeader w ++ [passRec .unimplementedSkipped (s.bodyStart w) (s.bodyBits w)]))) ∧
    ∀ i ∈ passRows2, ∀ s : State, s.ExtFits s.l2LenBits →
      exec i s =
        .next
          (s.ieEnds (s.bodyEnd s.l2LenBits)
            (s.extHeader s.l2LenBits ++
              [passRec .unimplementedSkipped (s.bodyStart s.l2LenBits) (s.bodyBits s.l2LenBits)]))

/-- Unknown sub-types (42_ie_dispatch.md R182): a marker sized by the declared length, a warning with the code, and the
decode goes on. A row run by itself is log 2. -/
def Obligations.UnknownSubtypesAreSkipped : Prop :=
  (∀ i ∈ unknownRows1, ∀ (s : State) (w : Nat), s.l1LenBits = some w → s.ExtFits w →
    exec i s =
      .next
        ((s.ieEnds (s.bodyEnd w)
          (s.extHeader w ++ [passRec .reservedSkipped (s.bodyStart w) (s.bodyBits w)])).warned .unknownVariant s.pos
          s.subtypeAt)) ∧
    ∀ i ∈ unknownRows2, ∀ s : State, s.ExtFits s.l2LenBits →
      exec i s =
        .next
          ((s.ieEnds (s.bodyEnd s.l2LenBits)
            (s.extHeader s.l2LenBits ++
              [passRec .reservedSkipped (s.bodyStart s.l2LenBits) (s.bodyBits s.l2LenBits)])).warned
            .unknownVariant s.pos s.subtypeAt)

/-- A declared length that does not fit (42_ie_dispatch.md R172, R174, 60_exceptions.md R285): past the enclosing limit it
is InconsistentLength at the first bit of the body, whatever the kind; with no enclosing limit and the body past the
buffer it is Truncated there, the limit staying pushed and nothing but the header emitted. -/
def Obligations.UnfittingLengthStops : Prop :=
  ∀ (s : State) (i : Instr) (w : Nat), s.ExtLegal w → s.bodyStart w ≤ s.effBound →
    (i ∈ level1Rows ∧ s.l1LenBits = some w ∨ i ∈ level2Rows ∧ w = s.l2LenBits) →
      (∀ b l, s.limstk = b :: l → l.length + 1 < s.cfg.doc.limDepth → b < s.bodyEnd w →
        exec i s = .next (s.ieStops .inconsistentLength (s.bodyStart w) (s.extHeader w))) ∧
        (s.limstk = [] → 0 < s.cfg.doc.limDepth → s.total < s.bodyEnd w → i ≠ .harqMap → s.cfg.hooks = [] →
          exec i s =
            .next
              { s.ieStops .truncated (s.bodyStart w) (s.extHeader w) with limstk := [s.bodyEnd w] })

/-- The escapes run the arm their sub-type selects (42_ie_dispatch.md R170, R171): the row of the escape answers exactly
as the row of its kind. -/
def Obligations.EscapesRunTheirKind : Prop :=
  ∀ s : State,
    (s.dir = .dl →
      exec .extended s = exec (l1Row s.subtypeAt (s.cfg.maps.l1Dl.lookup s.subtypeAt)) s ∧
        exec .extended2 s = exec (l2Row s.subtypeAt (s.cfg.maps.l2Dl.lookup s.subtypeAt)) s) ∧
      (s.dir = .ul →
        (∀ m k, s.cfg.maps.l1Ul = some m → m.lookup s.subtypeAt = some k →
          exec .extendedUplink s = exec (l1Row s.subtypeAt (some k)) s) ∧
          ∀ m, s.cfg.maps.l2Ul = some m → exec .extended2 s = exec (l2Row s.subtypeAt (m.lookup s.subtypeAt)) s)

/-- The escapes end ok on the declared end where the IE fits, no hook is supplied and the sub-type selects no HARQ map
(42_ie_dispatch.md R170 to R173). -/
def Obligations.EscapesComplete : Prop :=
  ∀ s : State, s.cfg.hooks = [] →
    (s.ExtFits s.cfg.doc.l1LenBitsDl →
      ∃ t, exec .extended s = .next t ∧ t.state = .done ∧ t.pos = s.bodyEnd s.cfg.doc.l1LenBitsDl ∧
        t.limstk = s.limstk) ∧
      (s.ExtFits s.l2LenBits → s.dir = .dl → s.cfg.maps.l2Dl.lookup s.subtypeAt ≠ some .harqMap →
        ∃ t, exec .extended2 s = .next t ∧ t.state = .done ∧ t.pos = s.bodyEnd s.l2LenBits ∧ t.limstk = s.limstk) ∧
      ∀ w m, s.cfg.l1LenBitsUl = some w → s.cfg.maps.l1Ul = some m → s.ExtFits w →
        ∃ t, exec .extendedUplink s = .next t ∧ t.state = .done ∧ t.pos = s.bodyEnd w ∧ t.limstk = s.limstk

/-! ### The Sub-Burst Container -/

/-- An unknown sub-burst mode (43_sub_burst.md R224): what is left of the declared length is passed over with a marker and
a warning. The rows run by themselves (log 2). -/
def Obligations.UnknownModesAreSkipped : Prop :=
  ∀ i ∈ unknownModeRows, ∀ s : State,
    4 ≤ s.cfg.doc.readMaxBits → s.inp.cqichIdWidth.toNat ≤ 9 → s.pos + 4 ≤ s.effBound →
    (∀ b ∈ s.limstk.head?, b ≤ s.total) →
      exec i s =
        .next
          ((s.ieEnds s.effBound
            [s.fieldRec .sbMode s.pos 4, passRec .reservedSkipped (s.pos + 4) (s.effBound - (s.pos + 4))]).warned
            .unknownVariant s.pos (memRead s.mem s.pos 4))

/-- The seven layouts with the loop discipline `Count` (43_sub_burst.md R220, R223, R225 to R227, R229 to R237): where even
the widest identifiers, three layers and every trailer would fit, the container ends ok after `N_sub_burst` + 1
sub-bursts. The PRE hook issues one RCID, whose record is there whether it asks for it or not; the LAYER hook reads four
bits, `n_layer` times in each sub-burst of a MIMO layout and never in another; the PRE hook may also call a Dedicated-MIMO
control, which writes `n_layer` before the repetition starts, where it stays. Hooks are programs in the model and write at
once (log 5, log 27), rows run by themselves (log 2), and a 16-bit trailer is checked even where `CRC16_REFLECT` is not
supplied (log 10). -/
def Obligations.CountedSubBursts : Prop :=
  ∀ p ∈ layoutRows, ∀ (s : State) (w : Nat) (b c e : Bool) (v : BitVec 2), s.cfg.doc = {} →
    s.inp.cqichIdWidth.toNat ≤ 9 →
    s.cfg.sbLoop.lookup (s.dir, p.2) = some .count → s.cfg.nSubBurstBits = some w → w ≤ 32 →
    s.cfg.sbCrc.lookup (s.dir, p.2, s.inp.includeCor2Changes) = some b →
    s.cfg.contCrc.lookup (s.dir, p.2, s.inp.includeCor2Changes) = some c →
    let n := memRead s.mem (s.pos + 4) w + 1
    let hook (id : HookId) (q : HookProg) := s.cfg.hooks.lookup id = some { prog := q }
    hook (.sbLayer s.dir p.2) (.read 0 (.lit 4) (some (.lit 0))) → hook (.sbPost s.dir p.2) .nop →
    (hook (.sbPre s.dir p.2) (.rcid 0 1 e) ∧ v = s.session.nLayer ∨
      ∃ k ∈ [ControlKind.dedicatedMimoDl, .dedicatedMimoUl],
        hook (.sbPre s.dir p.2) (.seq (.rcid 0 1 e) (.control k)) ∧
          hook (.control k) (.writeNLayer (.lit v.toNat))) →
    s.pos + 4 + w + 44 * n + 16 ≤ s.effBound →
      ∃ t, exec p.1 s = .next t ∧ t.state = .done ∧ t.err = 0 ∧ t.limstk = s.limstk ∧
        t.session = { s.session with nLayer := v } ∧
        [s.fieldRec .sbMode s.pos 4, s.fieldRec .nSubBurst (s.pos + 4) w] <+: t.out.drop s.out.length ∧
        (t.out.drop s.out.length).countP (fun r => decide (r.id = .cid)) = n ∧
        (t.out.drop s.out.length).countP (fun r => decide (r.id = .hook (.sbLayer s.dir p.2) 0)) =
          (if isMimo p.2 = true then n * v.toNat else 0) ∧
        (t.out.drop s.out.length).countP (fun r => decide (r.id = .trailer16)) =
          (if b = true then n else 0) + if c = true then 1 else 0

/-- The seven layouts without trailers. With the loop discipline `Length` (43_sub_burst.md R223), a PRE hook of one RCID,
nothing in the other parts and 16-bit identifiers: sub-bursts until the declared length is exhausted. With no hook for the
layout, under either discipline: each part is the opaque body of 00_scope.md R6 and 42_ie_dispatch.md R181 (the model's
reading, log 12), so that the first PRE part passes over all that is left. Hooks are programs in the model (log 5), rows
run by themselves (log 2). -/
def Obligations.SubBurstsUntilTheLength : Prop :=
  ∀ p ∈ layoutRows, ∀ s : State,
    s.inp.cqichIdWidth.toNat ≤ 9 → (∀ b ∈ s.limstk.head?, b ≤ s.total) → s.pos + 4 ≤ s.effBound →
    s.cfg.sbCrc.lookup (s.dir, p.2, s.inp.includeCor2Changes) = some false →
    s.cfg.contCrc.lookup (s.dir, p.2, s.inp.includeCor2Changes) = some false →
    let mode := s.fieldRec .sbMode s.pos 4
    let loop (k : LoopKind) := s.cfg.sbLoop.lookup (s.dir, p.2) = some k
    let hook (id : HookId) (q : HookProg) := s.cfg.hooks.lookup id = some { prog := q }
    let part (id : HookId) (o : Nat) := passRec (.body id) o (s.effBound - o)
    let burst (o : Nat) :=
      part (.sbPre s.dir p.2) o ::
        (List.replicate (if isMimo p.2 = true then s.session.nLayer.toNat else 0)
            (part (.sbLayer s.dir p.2) s.effBound) ++
          [part (.sbPost s.dir p.2) s.effBound])
    (∀ (n : Nat) (e : Bool), 16 ≤ s.cfg.doc.readMaxBits → loop .length → hook (.sbPre s.dir p.2) (.rcid 0 1 e) →
      hook (.sbLayer s.dir p.2) .nop → hook (.sbPost s.dir p.2) .nop → s.session.cidType = .normal16 →
      s.effBound = s.pos + 4 + 16 * n →
        exec p.1 s =
          .next
            (s.ieEnds s.effBound
              (mode :: (List.range n).map fun j => s.fieldRec .cid (s.pos + 4 + 16 * j) 16))) ∧
      (4 ≤ s.cfg.doc.readMaxBits →
        (∀ id ∈ [HookId.sbPre s.dir p.2, .sbLayer s.dir p.2, .sbPost s.dir p.2], s.cfg.hooks.lookup id = none) →
          (loop .length →
            exec p.1 s =
              .next
                (s.ieEnds s.effBound
                  (mode :: if s.pos + 4 = s.effBound then [] else burst (s.pos + 4)))) ∧
            ∀ w, loop .count → s.cfg.nSubBurstBits = some w → w ≤ s.cfg.doc.readMaxBits →
              s.pos + 4 + w ≤ s.effBound →
                exec p.1 s =
                  .next
                    (s.ieEnds s.effBound
                      (mode :: s.fieldRec .nSubBurst (s.pos + 4) w :: (burst (s.pos + 4 + w) ++
                        (List.replicate (memRead s.mem (s.pos + 4) w) (burst s.effBound)).flatten))))

/-- HARQ_MAP (42_ie_dispatch.md R172, R173, R203, 43_sub_burst.md R220, R221): its body is the container inside the IE's
limit, after a header hook that passes over `k` bits, or none. An unknown mode is skipped to the declared end. A counted
container whose parts fit ends ok there, with its sub-bursts' CID records. Whatever the discipline and the hooks of the
layout, where the row of the layout, run on the body inside the limit, ends ok, HARQ_MAP ends ok on the declared end, what
is left skipped with a warning, and where that row stops HARQ_MAP stops in the same state. Hooks are programs in the model
(log 5), rows run by themselves (log 2), and a 16-bit trailer is checked even where `CRC16_REFLECT` is not supplied
(log 10). -/
def Obligations.HarqMapHoldsAContainer : Prop :=
  ∀ (s : State) (k : Nat), s.cfg.doc = {} → s.ExtFits 8 → k + 4 ≤ s.bodyBits 8 →
    let hook (id : HookId) (q : HookProg) := s.cfg.hooks.lookup id = some { prog := q }
    (s.cfg.hooks.lookup (.harqHdr s.dir) = none ∧ k = 0 ∨ hook (.harqHdr s.dir) (.skip (.lit k) none)) →
    let o := s.bodyStart 8 + k
    let mode := memRead s.mem o 4
    let sel := (match s.dir with | .dl => s.cfg.maps.sbDl | .ul => s.cfg.maps.sbUl).lookup mode
    (sel = none →
      exec .harqMap s =
        .next
          ((s.ieEnds (s.bodyEnd 8)
            (s.extHeader 8 ++
              [s.fieldRec .sbMode o 4, passRec .reservedSkipped (o + 4) (s.bodyEnd 8 - (o + 4))])).warned
            .unknownVariant o mode)) ∧
      (∀ l w b c e, sel = some l → s.cfg.sbLoop.lookup (s.dir, l) = some .count → s.cfg.nSubBurstBits = some w →
        w ≤ 32 → s.cfg.sbCrc.lookup (s.dir, l, s.inp.includeCor2Changes) = some b →
        s.cfg.contCrc.lookup (s.dir, l, s.inp.includeCor2Changes) = some c →
        hook (.sbPre s.dir l) (.rcid 0 1 e) → hook (.sbLayer s.dir l) .nop → hook (.sbPost s.dir l) .nop →
        k + 4 + w + 32 * (memRead s.mem (o + 4) w + 1) + 16 ≤ s.bodyBits 8 →
          ∃ t, exec .harqMap s = .next t ∧ t.state = .done ∧ t.pos = s.bodyEnd 8 ∧ t.limstk = s.limstk ∧
            t.session = s.session ∧
            (t.out.drop s.out.length).countP (fun r => decide (r.id = .cid)) = memRead s.mem (o + 4) w + 1) ∧
      ∀ (i : Instr) (l : Layout) (u : State), sel = some l → (i, l) ∈ layoutRows →
        exec i { s with pos := o, limstk := s.bodyEnd 8 :: s.limstk, out := s.out ++ s.extHeader 8 } = .next u →
          let t := { u with pos := s.bodyEnd 8, limstk := s.limstk, consumed := s.bodyEnd 8 - s.start }
          (u.state = .done →
            exec .harqMap s =
              .next
                (if u.pos = s.bodyEnd 8 then t
                else t.warned .lengthConsistency u.pos (s.bodyEnd 8 - u.pos))) ∧
            (u.state = .stopped → exec .harqMap s = .next u)

/-! ### The Compact family -/

/-- Compact IEs of the kinds with no session effect, default hook (42_ie_dispatch.md R213, R181): the type code where the
map gives it any bits, then the rest of the region as one record. The form of `COMPACT_MAP` is the model's (log 13). -/
def Obligations.PlainCompactIes : Prop :=
  ∀ (s : State) (m : CompactMap),
    s.inp.cqichIdWidth.toNat ≤ 9 → s.cfg.compactMap = some m → m.codeBits ≤ s.cfg.doc.readMaxBits →
    s.pos + m.codeBits ≤ s.effBound → (∀ b ∈ s.limstk.head?, b ≤ s.total) →
    let c := memRead s.mem s.pos m.codeBits
    let k := (m.table.lookup c).getD (.other c)
    k ≠ .formatConfiguration → k ≠ .harqModeSwitch → s.cfg.hooks.lookup (.compact k) = none →
      let p := s.pos + m.codeBits
      let t :=
        s.ieEnds s.effBound
          ((if m.codeBits = 0 then [] else [s.fieldRec .l0Type s.pos m.codeBits]) ++
            [passRec (.body (.compact k)) p (s.effBound - p)])
      exec .compactIe s = .next t ∧
        exec .ieDlCompact s = .next { t with dir := .dl, family := .compact } ∧
        exec .ieUlCompact s = .next { t with dir := .ul, family := .compact }

/-- FORMAT_CONFIGURATION and HARQ_MODE_SWITCH (42_ie_dispatch.md R214, R215): with a hook that passes over the body and
returns values, they become `cid_type` and `fmt_cfg`, or `harq_mode`, and no other session field changes. Their order, and
that those after the third are the symbol counts, is the model's choice (log 26), as are hooks as programs (log 5) and the
form of `COMPACT_MAP` (log 13). -/
def Obligations.CompactSessionWrites : Prop :=
  ∀ (s : State) (m : CompactMap),
    s.inp.cqichIdWidth.toNat ≤ 9 → s.cfg.compactMap = some m → m.codeBits ≤ s.cfg.doc.readMaxBits →
    s.pos + m.codeBits ≤ s.effBound → (∀ b ∈ s.limstk.head?, b ≤ s.total) →
    let c := memRead s.mem s.pos m.codeBits
    let t := s.ieEnds s.effBound (if m.codeBits = 0 then [] else [s.fieldRec .l0Type s.pos m.codeBits])
    (∀ (a b e : Nat) (xs : List Nat), a < 4 → m.table.lookup c = some .formatConfiguration →
      s.cfg.hooks.lookup (.compact .formatConfiguration) =
          some
            { prog := .skip .drem none
              rets := [some (.lit a), some (.lit b), some (.lit e)] ++ xs.map fun x => some (.lit x) } →
        ∃ v, cidTypeCode v = a ∧
          exec .compactIe s =
            .next
              { t with
                session :=
                  { s.session with
                    cidType := v
                    fmtCfg := { maxLogicalBands := b, bandAmcSubchannelType := e, symbolCounts := xs } } }) ∧
      ∀ a : Nat, a < 2 → m.table.lookup c = some .harqModeSwitch →
        s.cfg.hooks.lookup (.compact .harqModeSwitch) = some { prog := .skip .drem none, rets := [some (.lit a)] } →
          ∃ v, harqModeCode v = a ∧
            exec .compactIe s = .next { t with session := { s.session with harqMode := v } }

/-- What is refused before an IE or MSG operation touches any state (60_exceptions.md R285, R287): `cqich_id_width` above 9
as BadConfig for every one of them; the Compact family without `COMPACT_MAP` as NoCompactMap. -/
def Obligations.IllegalInputsAreRefused : Prop :=
  (∀ (i : Instr) (s : State), isLegacyIe i = true ∨ isCompactIe i = true ∨ (msgKindOf i).isSome →
    9 < s.inp.cqichIdWidth.toNat → exec i s = .refused .badConfig) ∧
    (∀ (i : Instr) (s : State), isCompactIe i = true → s.inp.cqichIdWidth.toNat ≤ 9 → s.cfg.compactMap = none →
      exec i s = .refused .noCompactMap) ∧
    ∀ (s : State), s.inp.cqichIdWidth.toNat ≤ 9 → s.tooLong = false → s.inp.start ≤ 8 * s.inp.len →
      s.cfg.compactMap = none →
        exec .msgCompactDlMap s = .refused .noCompactMap ∧ exec .msgCompactUlMap s = .refused .noCompactMap

/-! ### IE commands -/

/-- The dispatch and the decoder agree (42_ie_dispatch.md R162, R170 to R172, 30_encoding.md R93 to R100): a legacy IE
command answers exactly as the row that the structure's first bits decode to, with the command's direction and family in
place; where there is not even a type field it stops Truncated at POS. -/
def Obligations.IeCommandRunsTheDecodedRow : Prop :=
  ∀ (p : Instr × Dir) (s : State), p ∈ [(Instr.ieDlLegacy, Dir.dl), (Instr.ieUlLegacy, Dir.ul)] →
    (∀ i, decodeWire s.cfg (.ie p.2) (headBits s (.ie p.2)) = .ok i → exec p.1 s = exec i (s.setRoute p.2 .legacy)) ∧
      ∀ e, decodeWire s.cfg (.ie p.2) (headBits s (.ie p.2)) = .error e → s.inp.cqichIdWidth.toNat ≤ 9 →
        s.cfg.doc.l0TypeBits ≤ s.cfg.doc.readMaxBits →
          exec p.1 s = .next ((s.setRoute p.2 .legacy).ieStops .truncated s.pos [])

/-- A legacy IE command on a regular structure without a CID list ends ok (42_ie_dispatch.md R160, R162, R167). -/
def Obligations.IeCommandOnARegularIe : Prop :=
  ∀ (p : Instr × Dir) (s : State) (l : List Bool), p ∈ [(Instr.ieDlLegacy, Dir.dl), (Instr.ieUlLegacy, Dir.ul)] →
    s.cfg.doc = {} → s.inp.cqichIdWidth.toNat ≤ 9 → (p.2 = .dl → s.session.incCid = false) → s.altSamples = false :: l →
    (memRead s.mem s.pos 4 ≤ 10 ∨ memRead s.mem s.pos 4 = 13) → s.pos + 36 ≤ s.effBound →
      exec p.1 s =
        .next
          { s.ieEnds (s.pos + 36) [s.fieldRec .l0Type s.pos 4, s.fieldRec (.regBody 0) (s.pos + 4) 32] with
            altSamples := l, dir := p.2, family := .legacy }

/-! ### Messages -/

/-- A legacy message whose declared length holds `n` regular IEs without CID lists (45_message_decoders.md R261, R264,
R267): session and status afresh, the IEs in wire order, the limit popped, the cursor padded to a byte, no trailer. -/
def Obligations.LegacyMessage : Prop :=
  ∀ (p : Instr × MsgKind × Dir) (s : State) (n : Nat) (l : List Bool),
    p ∈ [(Instr.msgDlMap, MsgKind.dlMap, Dir.dl), (Instr.msgUlMap, MsgKind.ulMap, Dir.ul)] →
    s.cfg.doc = {} → s.inp.cqichIdWidth.toNat ≤ 9 → s.tooLong = false → s.inp.msgLenBits = 36 * n →
    s.inp.start + 36 * n ≤ 8 * s.inp.len → s.cfg.sessionInit.incCid = false →
    s.cfg.hooks.lookup (.msgHdr p.2.1) = none → s.altSamples = List.replicate n false ++ l →
    (∀ j < n, memRead s.mem (s.inp.start + 36 * j) 4 ≤ 10 ∨ memRead s.mem (s.inp.start + 36 * j) 4 = 13) →
      let q := 8 * ((s.inp.start + 36 * n + 7) / 8)
      exec p.1 s =
        .next
          { s with
            len := s.inp.len, start := s.inp.start, pos := q, limstk := [], msgStartByte := s.inp.start / 8
            session := s.cfg.sessionInit, dir := p.2.2, family := .legacy, msgKind := p.2.1, altSamples := l
            state := .done, err := 0, errPos := 0, consumed := q - s.inp.start
            wCrc := false, wLen := false, wUnk := false
            out :=
              (List.range n).flatMap fun j =>
                [s.fieldRec .l0Type (s.inp.start + 36 * j) 4, s.fieldRec (.regBody 0) (s.inp.start + 36 * j + 4) 32]
            warn := [], result := .done }

/-- A Reduced-AAS private map of regular IEs (45_message_decoders.md R260, R264, R265), read as legacy downlink: after the
pad a 16-bit trailer is verified; a mismatch is a warning and the message still ends ok. That it is verified where
`CRC16_REFLECT` is not supplied is the model's choice (log 10). -/
def Obligations.ReducedAasMessage : Prop :=
  ∀ (s : State) (n : Nat) (l : List Bool),
    s.cfg.doc = {} → s.inp.cqichIdWidth.toNat ≤ 9 → s.tooLong = false → s.inp.msgLenBits = 36 * n →
    s.cfg.raasIeKind = (.dl, .legacy) →
    s.cfg.sessionInit.incCid = false → s.cfg.hooks.lookup (.msgHdr .raasPrivateMap) = none →
    s.altSamples = List.replicate n false ++ l →
    (∀ j < n, memRead s.mem (s.inp.start + 36 * j) 4 ≤ 10 ∨ memRead s.mem (s.inp.start + 36 * j) 4 = 13) →
    let q := 8 * ((s.inp.start + 36 * n + 7) / 8)
    q + 16 ≤ 8 * s.inp.len →
      let span := (List.range' (s.inp.start / 8) (q / 8 - s.inp.start / 8)).map (readByte s.mem)
      ∃ t, exec .msgRaasPrivateMap s = .next t ∧ t.state = .done ∧ t.err = 0 ∧ t.pos = q + 16 ∧ t.limstk = [] ∧
        t.consumed = q + 16 - s.inp.start ∧ t.session = s.cfg.sessionInit ∧ t.altSamples = l ∧
        t.out =
          ((List.range n).flatMap fun j =>
            [s.fieldRec .l0Type (s.inp.start + 36 * j) 4, s.fieldRec (.regBody 0) (s.inp.start + 36 * j + 4) 32]) ++
            [s.fieldRec .trailer16 q 16] ∧
        (t.wCrc = true ↔ memRead s.mem q 16 ≠ (crc16 s.cfg.doc.crc16Poly s.crc16Reflect span).toNat)

/-- A Compact message whose region is one opaque IE of a kind with no session effect (45_message_decoders.md R260 to R265):
the header has no hook, so `cid_type` becomes unspecified (R263, log 7); after the pad a 32-bit trailer is verified. -/
def Obligations.CompactMessage : Prop :=
  ∀ (p : Instr × MsgKind) (s : State) (m : CompactMap),
    p ∈ [(Instr.msgCompactDlMap, MsgKind.compactDlMap), (Instr.msgCompactUlMap, MsgKind.compactUlMap)] →
    s.cfg.doc = {} → s.inp.cqichIdWidth.toNat ≤ 9 → s.tooLong = false → s.cfg.compactMap = some m → m.codeBits ≤ 32 →
    0 < s.inp.msgLenBits → m.codeBits ≤ s.inp.msgLenBits → s.cfg.hooks.lookup (.msgHdr p.2) = none →
    let c := memRead s.mem s.inp.start m.codeBits
    let k := (m.table.lookup c).getD (.other c)
    k ≠ .formatConfiguration → k ≠ .harqModeSwitch → s.cfg.hooks.lookup (.compact k) = none →
    let e := s.inp.start + s.inp.msgLenBits
    let q := 8 * ((e + 7) / 8)
    q + 32 ≤ 8 * s.inp.len →
      let span := (List.range' (s.inp.start / 8) (q / 8 - s.inp.start / 8)).map (readByte s.mem)
      ∃ t v, exec p.1 s = .next t ∧ t.state = .done ∧ t.err = 0 ∧ t.pos = q + 32 ∧ t.limstk = [] ∧
        t.session = { s.cfg.sessionInit with cidType := v } ∧
        t.out =
          (if m.codeBits = 0 then [] else [s.fieldRec .l0Type s.inp.start m.codeBits]) ++
            [passRec (.body (.compact k)) (s.inp.start + m.codeBits) (s.inp.msgLenBits - m.codeBits),
             s.fieldRec .trailer32 q 32] ∧
        (t.wCrc = true ↔ memRead s.mem q 32 ≠ (crc32 s.cfg.doc.crc32Poly s.cfg.crc32Reflect span).toNat)

/-- A Compact downlink message whose header announces an appended uplink map (45_message_decoders.md R266, 10_state.md R25,
R37): the second segment follows the first one's trailer on the same session and lists, its own trailer covers its own
bytes only, and CONSUMED counts both. What the first header wrote into `cid_type` is still there after a second segment
whose header has a hook that writes nothing; where the second header has no hook, it leaves `cid_type` unspecified (R263,
log 7). Each segment here is one opaque IE of the declared length; that an appended header takes the same MSG_LEN_BITS is
the model's reading (log 17), hooks are programs in the model (log 5, log 27). -/
def Obligations.AppendedUplinkMap : Prop :=
  ∀ (s : State) (m : CompactMap) (n a : Nat) (prog : HookProg) (u : CidType),
    s.cfg.doc = {} → s.inp.cqichIdWidth.toNat ≤ 9 → s.tooLong = false → s.cfg.compactMap = some m → m.codeBits = 0 →
    s.inp.start = 0 → s.inp.msgLenBits = 8 * n → 0 < n →
    (prog = .nop ∧ u = s.cfg.sessionInit.cidType ∨ prog = .writeCidType (.lit a) ∧ a = cidTypeCode u) →
    s.cfg.hooks.lookup (.msgHdr .compactDlMap) = some { prog := prog, rets := [none, some (.lit 1)] } →
    (s.cfg.hooks.lookup (.msgHdr .compactUlMap) = none ∨
      s.cfg.hooks.lookup (.msgHdr .compactUlMap) = some { prog := .nop }) →
    m.table.lookup 0 = some .safety →
    s.cfg.hooks.lookup (.compact .safety) = none → 2 * (8 * n + 32) ≤ 8 * s.inp.len →
      let q := 8 * n + 32
      let span1 := (List.range' 0 n).map (readByte s.mem)
      let span2 := (List.range' (n + 4) n).map (readByte s.mem)
      ∃ t v, exec .msgCompactDlMap s = .next t ∧ t.state = .done ∧ t.err = 0 ∧ t.start = 0 ∧ t.pos = 2 * q ∧
        t.consumed = 2 * q ∧ t.msgStartByte = n + 4 ∧ t.limstk = [] ∧
        t.session = { s.cfg.sessionInit with cidType := v } ∧
        (s.cfg.hooks.lookup (.msgHdr .compactUlMap) ≠ none → v = u) ∧
        t.out =
          [passRec (.body (.compact .safety)) 0 (8 * n), s.fieldRec .trailer32 (8 * n) 32,
           passRec (.body (.compact .safety)) q (8 * n), s.fieldRec .trailer32 (q + 8 * n) 32] ∧
        (t.wCrc = false ↔
          memRead s.mem (8 * n) 32 = (crc32 s.cfg.doc.crc32Poly s.cfg.crc32Reflect span1).toNat ∧
            memRead s.mem (q + 8 * n) 32 = (crc32 s.cfg.doc.crc32Poly s.cfg.crc32Reflect span2).toNat)

/-- A message depends on nothing an earlier decode left (45_message_decoders.md R261, R268 (a), 70_reset_and_hazards.md
R312): whatever the cursor, session, status and lists were, it answers the same. -/
def Obligations.MessagesForgetThePast : Prop :=
  ∀ (i : Instr) (s t : State), (msgKindOf i).isSome →
    s.mem = t.mem → s.inp = t.inp → s.cfg = t.cfg → s.altSamples = t.altSamples → s.draws = t.draws →
    s.acc16 = t.acc16 → s.acc32 = t.acc32 → s.port = t.port →
      exec i s = exec i t

/-- A buffer cut short (45_message_decoders.md R268 (b), 40_bit_cursor.md R132 (e)): with the same inputs and no hook
supplied, the records of a message on the cut buffer are a prefix of those on the whole one, and unless it ends Truncated
they are the same and end at the same place. -/
def Obligations.CutBufferGivesAPrefix : Prop :=
  ∀ (i : Instr) (s t t' : State) (m : Memory) (n : Nat), (msgKindOf i).isSome → s.cfg.hooks = [] → n ≤ s.inp.len →
    (∀ a < n, readByte m a = readByte s.mem a) → exec i s = .next t →
    exec i { s with mem := m, inp := { s.inp with len := n } } = .next t' →
      t'.out <+: t.out ∧ t'.warn <+: t.warn ∧
        (t'.err = 1 ∨ t'.out = t.out ∧ t'.warn = t.warn ∧ t'.err = t.err ∧ t'.pos = t.pos ∧ t'.session = t.session)

/-! ### Rules of the whole machine -/

/-- The block never writes the buffer, its inputs or its configuration (20_memory.md R60, R69, R71; 10_state.md, "What is not
state"). -/
def Obligations.BufferAndInputsAreNeverWritten : Prop :=
  ∀ (i : Instr) (s t : State), exec i s = .next t → t.mem = s.mem ∧ t.inp = s.inp ∧ t.cfg = s.cfg ∧ t.port = s.port

/-- Between one INIT or MSG and the next the cursor never moves backwards, records and warnings are only appended, no
sticky flag is cleared, and the buffer's length and START stay (10_state.md R20, R22, R26, R45, R46, R47). -/
def Obligations.PastOfADecodeCallIsKept : Prop :=
  ∀ (i : Instr) (s t : State), loadsBuffer i = false → exec i s = .next t →
    s.pos ≤ t.pos ∧ s.out <+: t.out ∧ s.warn <+: t.warn ∧ t.len = s.len ∧ t.start = s.start ∧
      (s.wCrc = true → t.wCrc = true) ∧ (s.wLen = true → t.wLen = true) ∧ (s.wUnk = true → t.wUnk = true)

/-- Who may write what (10_state.md R44, R49): a command of the cursor, RCID or checksum group leaves the session, the
inputs of the dispatch, STATE, ERR, ERR_POS, CONSUMED and the other flags alone; only VERIFY writes OUT and WARN, only
PUSHLIM and POPLIM write LIMSTK, only the checksum operations write an accumulator. -/
def Obligations.UnitOperationsWriteTheirOwn : Prop :=
  ∀ (i : Instr) (s t : State), isUnitOp i = true → exec i s = .next t →
    (t.session = s.session ∧ t.dir = s.dir ∧ t.family = s.family ∧ t.msgKind = s.msgKind ∧
      t.altSamples = s.altSamples ∧ t.draws = s.draws ∧ t.state = s.state ∧ t.err = s.err ∧ t.errPos = s.errPos ∧
      t.consumed = s.consumed ∧ t.msgStartByte = s.msgStartByte ∧ t.wLen = s.wLen ∧ t.wUnk = s.wUnk) ∧
      (i ∉ [.verify16, .verify32, .trailer16, .trailer32] → t.out = s.out ∧ t.warn = s.warn ∧ t.wCrc = s.wCrc) ∧
      ((∀ n, i ≠ .pushlim n) → i ≠ .poplim → t.limstk = s.limstk) ∧
      (i ∉ [.crc16, .verify16, .trailer16] → t.acc16 = s.acc16) ∧
      (i ∉ [.crc32, .verify32, .trailer32] → t.acc32 = s.acc32)

/-- No legacy IE, whatever hooks are configured, writes a session field that belongs to the Compact family: `cid_type`,
`harq_mode` and `fmt_cfg` (10_state.md R30 "written by", 42_ie_dispatch.md R213). -/
def Obligations.LegacyIesLeaveTheCompactSession : Prop :=
  ∀ (i : Instr) (s t : State), isLegacyIe i = true → exec i s = .next t →
    t.session.cidType = s.session.cidType ∧ t.session.harqMode = s.session.harqMode ∧
      t.session.fmtCfg = s.session.fmtCfg

/-- An IE or MSG operation ends DONE with ERR 0, or STOPPED with the code of its error and ERR_POS where the cursor stands;
CONSUMED is POS minus START either way (42_ie_dispatch.md R160, 60_exceptions.md R281, R284, 10_state.md R44). -/
def Obligations.CallsEndDoneOrStopped : Prop :=
  ∀ (i : Instr) (s t : State), isUnitOp i = false → (∀ p, i ≠ .init p) → exec i s = .next t →
    t.consumed = t.pos - t.start ∧
      (t.state = .done ∧ t.err = 0 ∧ t.errPos = 0 ∨
        t.state = .stopped ∧ (t.err = 1 ∨ t.err = 2 ∨ t.err = 4) ∧ t.errPos = t.pos)

/-- Bit accounting (42_ie_dispatch.md R173, R218 (a)): from a state whose cursor is in order, an Extended or Extended-2 IE
that ends ok, whatever its hooks did, stands exactly on its declared end, and the limits are as they were. -/
def Obligations.DeclaredLengthIsConsumed : Prop :=
  ∀ (i : Instr) (s t : State), s.CursorOk → exec i s = .next t → t.state = .done →
    (i ∈ .extended2 :: level2Rows → t.pos = s.bodyEnd s.l2LenBits ∧ t.limstk = s.limstk) ∧
      (i ∈ level1Rows → ∃ w, s.l1LenBits = some w ∧ t.pos = s.bodyEnd w ∧ t.limstk = s.limstk) ∧
      (i = .extended → t.pos = s.bodyEnd s.cfg.doc.l1LenBitsDl ∧ t.limstk = s.limstk) ∧
      (i = .extendedUplink → ∃ w, s.cfg.l1LenBitsUl = some w ∧ t.pos = s.bodyEnd w ∧ t.limstk = s.limstk)

/-- Limits balance (42_ie_dispatch.md R172 to R174, 45_message_decoders.md R264): an IE that ends ok leaves LIMSTK as it
found it, a message that ends ok leaves it empty. -/
def Obligations.LimitsBalance : Prop :=
  ∀ (i : Instr) (s t : State), exec i s = .next t → t.state = .done →
    (isLegacyIe i = true ∨ isCompactIe i = true → t.limstk = s.limstk) ∧ ((msgKindOf i).isSome → t.limstk = [])

/-! ### Invariants of the step -/

/-- Every step keeps the cursor in the buffer and in every open region, the regions nested and at most LIM_DEPTH, and the
field records inside the bits passed, in wire order, with the values of their bits (10_state.md R21, R23, R45, 40_bit_cursor.md
R132 (b)). The record of a CID shorter than 16 bits is without its prefix (log 21); a hook may emit a field and parts of it
(log 5), and its record of more than 32 bits has a value (log 29). -/
def Obligations.StepKeepsCursorAndRecords : Prop :=
  ∀ s t : State, s.CursorOk → s.RecordsOk → step s = .next t → t.CursorOk ∧ t.RecordsOk

/-- Every step keeps the sticky flags the summary of the warnings (10_state.md R47), and between commands the block rests in
IDLE, DONE or STOPPED, with ERR a legal code that is 0 unless STOPPED (R43, R44, 60_exceptions.md R281, R288). -/
def Obligations.StepKeepsFlagsAndStatus : Prop :=
  ∀ s t : State, step s = .next t → (s.FlagsOk → t.FlagsOk) ∧ (s.StatusOk → t.StatusOk)

/-- Every step keeps the Byte Buffer in its one canonical form (the form is the model's, log 14). -/
def Obligations.StepKeepsBufferCanonical : Prop := ∀ s t : State, s.MemOk → step s = .next t → t.MemOk

/-- Right after reset all of these hold, and every register that 10_state.md R50 gives a reset value has it
(70_reset_and_hazards.md R310). -/
def Obligations.ResetIsInOrder : Prop :=
  let r := State.reset
  r.Inv ∧ r.len = 0 ∧ r.total = 0 ∧ r.start = 0 ∧ r.pos = 0 ∧ r.limstk = [] ∧ r.msgStartByte = 0 ∧ r.state = .idle ∧
    r.err = 0 ∧ r.errPos = 0 ∧ r.consumed = 0 ∧ r.wCrc = false ∧ r.wLen = false ∧ r.wUnk = false ∧ r.out = [] ∧
    r.warn = [] ∧ r.session = r.cfg.sessionInit ∧ r.session.cidType = .normal16 ∧
    r.session.harqMode = .legacyPerConnection ∧ r.session.nLayer = 0 ∧ r.session.stcZoneMatrix = 0 ∧
    r.session.stcZoneDedicatedPilots = 0 ∧ r.session.incCid = false ∧ r.session.fmtCfg = {}

/-- No step from a state whose cursor is in order faults: no checksum reads a byte outside the buffer (20_memory.md R61).
The fault is the model's own (log 14). -/
def Obligations.NoStepFaults : Prop := ∀ (s : State) (f : Fault), s.CursorOk → step s ≠ .fault f
end

