-- ==== Sys2Proof/Laws/State.lean ====
section
/-! SUPPORT. What each update of the state leaves in each field: one lemma per field per update, true by unfolding the
update. -/

namespace Sys2Proof.Machine

variable (s : State)

/-! ### `State.setPos` -/

@[simp] theorem State.setPos_mem (p : Nat) : (s.setPos p).mem = s.mem := rfl
@[simp] theorem State.setPos_len (p : Nat) : (s.setPos p).len = s.len := rfl
@[simp] theorem State.setPos_start (p : Nat) : (s.setPos p).start = s.start := rfl
@[simp] theorem State.setPos_pos (p : Nat) : (s.setPos p).pos = p := rfl
@[simp] theorem State.setPos_limstk (p : Nat) : (s.setPos p).limstk = s.limstk := rfl
@[simp] theorem State.setPos_msgStartByte (p : Nat) : (s.setPos p).msgStartByte = s.msgStartByte := rfl
@[simp] theorem State.setPos_acc16 (p : Nat) : (s.setPos p).acc16 = s.acc16 := rfl
@[simp] theorem State.setPos_acc32 (p : Nat) : (s.setPos p).acc32 = s.acc32 := rfl
@[simp] theorem State.setPos_session (p : Nat) : (s.setPos p).session = s.session := rfl
@[simp] theorem State.setPos_dir (p : Nat) : (s.setPos p).dir = s.dir := rfl
@[simp] theorem State.setPos_family (p : Nat) : (s.setPos p).family = s.family := rfl
@[simp] theorem State.setPos_msgKind (p : Nat) : (s.setPos p).msgKind = s.msgKind := rfl
@[simp] theorem State.setPos_inp (p : Nat) : (s.setPos p).inp = s.inp := rfl
@[simp] theorem State.setPos_altSamples (p : Nat) : (s.setPos p).altSamples = s.altSamples := rfl
@[simp] theorem State.setPos_state (p : Nat) : (s.setPos p).state = s.state := rfl
@[simp] theorem State.setPos_err (p : Nat) : (s.setPos p).err = s.err := rfl
@[simp] theorem State.setPos_errPos (p : Nat) : (s.setPos p).errPos = s.errPos := rfl
@[simp] theorem State.setPos_consumed (p : Nat) : (s.setPos p).consumed = s.consumed := rfl
@[simp] theorem State.setPos_wCrc (p : Nat) : (s.setPos p).wCrc = s.wCrc := rfl
@[simp] theorem State.setPos_wLen (p : Nat) : (s.setPos p).wLen = s.wLen := rfl
@[simp] theorem State.setPos_wUnk (p : Nat) : (s.setPos p).wUnk = s.wUnk := rfl
@[simp] theorem State.setPos_out (p : Nat) : (s.setPos p).out = s.out := rfl
@[simp] theorem State.setPos_warn (p : Nat) : (s.setPos p).warn = s.warn := rfl
@[simp] theorem State.setPos_cfg (p : Nat) : (s.setPos p).cfg = s.cfg := rfl
@[simp] theorem State.setPos_result (p : Nat) : (s.setPos p).result = s.result := rfl
@[simp] theorem State.setPos_port (p : Nat) : (s.setPos p).port = s.port := rfl
@[simp] theorem State.setPos_draws (p : Nat) : (s.setPos p).draws = s.draws := rfl

/-! ### `State.setLimstk` -/

@[simp] theorem State.setLimstk_mem (l : List Nat) : (s.setLimstk l).mem = s.mem := rfl
@[simp] theorem State.setLimstk_len (l : List Nat) : (s.setLimstk l).len = s.len := rfl
@[simp] theorem State.setLimstk_start (l : List Nat) : (s.setLimstk l).start = s.start := rfl
@[simp] theorem State.setLimstk_pos (l : List Nat) : (s.setLimstk l).pos = s.pos := rfl
@[simp] theorem State.setLimstk_limstk (l : List Nat) : (s.setLimstk l).limstk = l := rfl
@[simp] theorem State.setLimstk_msgStartByte (l : List Nat) : (s.setLimstk l).msgStartByte = s.msgStartByte := rfl
@[simp] theorem State.setLimstk_acc16 (l : List Nat) : (s.setLimstk l).acc16 = s.acc16 := rfl
@[simp] theorem State.setLimstk_acc32 (l : List Nat) : (s.setLimstk l).acc32 = s.acc32 := rfl
@[simp] theorem State.setLimstk_session (l : List Nat) : (s.setLimstk l).session = s.session := rfl
@[simp] theorem State.setLimstk_dir (l : List Nat) : (s.setLimstk l).dir = s.dir := rfl
@[simp] theorem State.setLimstk_family (l : List Nat) : (s.setLimstk l).family = s.family := rfl
@[simp] theorem State.setLimstk_msgKind (l : List Nat) : (s.setLimstk l).msgKind = s.msgKind := rfl
@[simp] theorem State.setLimstk_inp (l : List Nat) : (s.setLimstk l).inp = s.inp := rfl
@[simp] theorem State.setLimstk_altSamples (l : List Nat) : (s.setLimstk l).altSamples = s.altSamples := rfl
@[simp] theorem State.setLimstk_state (l : List Nat) : (s.setLimstk l).state = s.state := rfl
@[simp] theorem State.setLimstk_err (l : List Nat) : (s.setLimstk l).err = s.err := rfl
@[simp] theorem State.setLimstk_errPos (l : List Nat) : (s.setLimstk l).errPos = s.errPos := rfl
@[simp] theorem State.setLimstk_consumed (l : List Nat) : (s.setLimstk l).consumed = s.consumed := rfl
@[simp] theorem State.setLimstk_wCrc (l : List Nat) : (s.setLimstk l).wCrc = s.wCrc := rfl
@[simp] theorem State.setLimstk_wLen (l : List Nat) : (s.setLimstk l).wLen = s.wLen := rfl
@[simp] theorem State.setLimstk_wUnk (l : List Nat) : (s.setLimstk l).wUnk = s.wUnk := rfl
@[simp] theorem State.setLimstk_out (l : List Nat) : (s.setLimstk l).out = s.out := rfl
@[simp] theorem State.setLimstk_warn (l : List Nat) : (s.setLimstk l).warn = s.warn := rfl
@[simp] theorem State.setLimstk_cfg (l : List Nat) : (s.setLimstk l).cfg = s.cfg := rfl
@[simp] theorem State.setLimstk_result (l : List Nat) : (s.setLimstk l).result = s.result := rfl
@[simp] theorem State.setLimstk_port (l : List Nat) : (s.setLimstk l).port = s.port := rfl
@[simp] theorem State.setLimstk_draws (l : List Nat) : (s.setLimstk l).draws = s.draws := rfl

/-! ### `State.setSeq` -/

@[simp] theorem State.setSeq_mem (q : SeqState) : (s.setSeq q).mem = s.mem := rfl
@[simp] theorem State.setSeq_len (q : SeqState) : (s.setSeq q).len = s.len := rfl
@[simp] theorem State.setSeq_start (q : SeqState) : (s.setSeq q).start = s.start := rfl
@[simp] theorem State.setSeq_pos (q : SeqState) : (s.setSeq q).pos = s.pos := rfl
@[simp] theorem State.setSeq_limstk (q : SeqState) : (s.setSeq q).limstk = s.limstk := rfl
@[simp] theorem State.setSeq_msgStartByte (q : SeqState) : (s.setSeq q).msgStartByte = s.msgStartByte := rfl
@[simp] theorem State.setSeq_acc16 (q : SeqState) : (s.setSeq q).acc16 = s.acc16 := rfl
@[simp] theorem State.setSeq_acc32 (q : SeqState) : (s.setSeq q).acc32 = s.acc32 := rfl
@[simp] theorem State.setSeq_session (q : SeqState) : (s.setSeq q).session = s.session := rfl
@[simp] theorem State.setSeq_dir (q : SeqState) : (s.setSeq q).dir = s.dir := rfl
@[simp] theorem State.setSeq_family (q : SeqState) : (s.setSeq q).family = s.family := rfl
@[simp] theorem State.setSeq_msgKind (q : SeqState) : (s.setSeq q).msgKind = s.msgKind := rfl
@[simp] theorem State.setSeq_inp (q : SeqState) : (s.setSeq q).inp = s.inp := rfl
@[simp] theorem State.setSeq_altSamples (q : SeqState) : (s.setSeq q).altSamples = s.altSamples := rfl
@[simp] theorem State.setSeq_state (q : SeqState) : (s.setSeq q).state = q := rfl
@[simp] theorem State.setSeq_err (q : SeqState) : (s.setSeq q).err = s.err := rfl
@[simp] theorem State.setSeq_errPos (q : SeqState) : (s.setSeq q).errPos = s.errPos := rfl
@[simp] theorem State.setSeq_consumed (q : SeqState) : (s.setSeq q).consumed = s.consumed := rfl
@[simp] theorem State.setSeq_wCrc (q : SeqState) : (s.setSeq q).wCrc = s.wCrc := rfl
@[simp] theorem State.setSeq_wLen (q : SeqState) : (s.setSeq q).wLen = s.wLen := rfl
@[simp] theorem State.setSeq_wUnk (q : SeqState) : (s.setSeq q).wUnk = s.wUnk := rfl
@[simp] theorem State.setSeq_out (q : SeqState) : (s.setSeq q).out = s.out := rfl
@[simp] theorem State.setSeq_warn (q : SeqState) : (s.setSeq q).warn = s.warn := rfl
@[simp] theorem State.setSeq_cfg (q : SeqState) : (s.setSeq q).cfg = s.cfg := rfl
@[simp] theorem State.setSeq_result (q : SeqState) : (s.setSeq q).result = s.result := rfl
@[simp] theorem State.setSeq_port (q : SeqState) : (s.setSeq q).port = s.port := rfl
@[simp] theorem State.setSeq_draws (q : SeqState) : (s.setSeq q).draws = s.draws := rfl

/-! ### `State.setResult` -/

@[simp] theorem State.setResult_mem (r : Response) : (s.setResult r).mem = s.mem := rfl
@[simp] theorem State.setResult_len (r : Response) : (s.setResult r).len = s.len := rfl
@[simp] theorem State.setResult_start (r : Response) : (s.setResult r).start = s.start := rfl
@[simp] theorem State.setResult_pos (r : Response) : (s.setResult r).pos = s.pos := rfl
@[simp] theorem State.setResult_limstk (r : Response) : (s.setResult r).limstk = s.limstk := rfl
@[simp] theorem State.setResult_msgStartByte (r : Response) : (s.setResult r).msgStartByte = s.msgStartByte := rfl
@[simp] theorem State.setResult_acc16 (r : Response) : (s.setResult r).acc16 = s.acc16 := rfl
@[simp] theorem State.setResult_acc32 (r : Response) : (s.setResult r).acc32 = s.acc32 := rfl
@[simp] theorem State.setResult_session (r : Response) : (s.setResult r).session = s.session := rfl
@[simp] theorem State.setResult_dir (r : Response) : (s.setResult r).dir = s.dir := rfl
@[simp] theorem State.setResult_family (r : Response) : (s.setResult r).family = s.family := rfl
@[simp] theorem State.setResult_msgKind (r : Response) : (s.setResult r).msgKind = s.msgKind := rfl
@[simp] theorem State.setResult_inp (r : Response) : (s.setResult r).inp = s.inp := rfl
@[simp] theorem State.setResult_altSamples (r : Response) : (s.setResult r).altSamples = s.altSamples := rfl
@[simp] theorem State.setResult_state (r : Response) : (s.setResult r).state = s.state := rfl
@[simp] theorem State.setResult_err (r : Response) : (s.setResult r).err = s.err := rfl
@[simp] theorem State.setResult_errPos (r : Response) : (s.setResult r).errPos = s.errPos := rfl
@[simp] theorem State.setResult_consumed (r : Response) : (s.setResult r).consumed = s.consumed := rfl
@[simp] theorem State.setResult_wCrc (r : Response) : (s.setResult r).wCrc = s.wCrc := rfl
@[simp] theorem State.setResult_wLen (r : Response) : (s.setResult r).wLen = s.wLen := rfl
@[simp] theorem State.setResult_wUnk (r : Response) : (s.setResult r).wUnk = s.wUnk := rfl
@[simp] theorem State.setResult_out (r : Response) : (s.setResult r).out = s.out := rfl
@[simp] theorem State.setResult_warn (r : Response) : (s.setResult r).warn = s.warn := rfl
@[simp] theorem State.setResult_cfg (r : Response) : (s.setResult r).cfg = s.cfg := rfl
@[simp] theorem State.setResult_result (r : Response) : (s.setResult r).result = r := rfl
@[simp] theorem State.setResult_port (r : Response) : (s.setResult r).port = s.port := rfl
@[simp] theorem State.setResult_draws (r : Response) : (s.setResult r).draws = s.draws := rfl

/-! ### `State.setSession` -/

@[simp] theorem State.setSession_mem (x : Session) : (s.setSession x).mem = s.mem := rfl
@[simp] theorem State.setSession_len (x : Session) : (s.setSession x).len = s.len := rfl
@[simp] theorem State.setSession_start (x : Session) : (s.setSession x).start = s.start := rfl
@[simp] theorem State.setSession_pos (x : Session) : (s.setSession x).pos = s.pos := rfl
@[simp] theorem State.setSession_limstk (x : Session) : (s.setSession x).limstk = s.limstk := rfl
@[simp] theorem State.setSession_msgStartByte (x : Session) : (s.setSession x).msgStartByte = s.msgStartByte := rfl
@[simp] theorem State.setSession_acc16 (x : Session) : (s.setSession x).acc16 = s.acc16 := rfl
@[simp] theorem State.setSession_acc32 (x : Session) : (s.setSession x).acc32 = s.acc32 := rfl
@[simp] theorem State.setSession_session (x : Session) : (s.setSession x).session = x := rfl
@[simp] theorem State.setSession_dir (x : Session) : (s.setSession x).dir = s.dir := rfl
@[simp] theorem State.setSession_family (x : Session) : (s.setSession x).family = s.family := rfl
@[simp] theorem State.setSession_msgKind (x : Session) : (s.setSession x).msgKind = s.msgKind := rfl
@[simp] theorem State.setSession_inp (x : Session) : (s.setSession x).inp = s.inp := rfl
@[simp] theorem State.setSession_altSamples (x : Session) : (s.setSession x).altSamples = s.altSamples := rfl
@[simp] theorem State.setSession_state (x : Session) : (s.setSession x).state = s.state := rfl
@[simp] theorem State.setSession_err (x : Session) : (s.setSession x).err = s.err := rfl
@[simp] theorem State.setSession_errPos (x : Session) : (s.setSession x).errPos = s.errPos := rfl
@[simp] theorem State.setSession_consumed (x : Session) : (s.setSession x).consumed = s.consumed := rfl
@[simp] theorem State.setSession_wCrc (x : Session) : (s.setSession x).wCrc = s.wCrc := rfl
@[simp] theorem State.setSession_wLen (x : Session) : (s.setSession x).wLen = s.wLen := rfl
@[simp] theorem State.setSession_wUnk (x : Session) : (s.setSession x).wUnk = s.wUnk := rfl
@[simp] theorem State.setSession_out (x : Session) : (s.setSession x).out = s.out := rfl
@[simp] theorem State.setSession_warn (x : Session) : (s.setSession x).warn = s.warn := rfl
@[simp] theorem State.setSession_cfg (x : Session) : (s.setSession x).cfg = s.cfg := rfl
@[simp] theorem State.setSession_result (x : Session) : (s.setSession x).result = s.result := rfl
@[simp] theorem State.setSession_port (x : Session) : (s.setSession x).port = s.port := rfl
@[simp] theorem State.setSession_draws (x : Session) : (s.setSession x).draws = s.draws := rfl

/-! ### `State.setAcc16` -/

@[simp] theorem State.setAcc16_mem (v : BitVec 16) : (s.setAcc16 v).mem = s.mem := rfl
@[simp] theorem State.setAcc16_len (v : BitVec 16) : (s.setAcc16 v).len = s.len := rfl
@[simp] theorem State.setAcc16_start (v : BitVec 16) : (s.setAcc16 v).start = s.start := rfl
@[simp] theorem State.setAcc16_pos (v : BitVec 16) : (s.setAcc16 v).pos = s.pos := rfl
@[simp] theorem State.setAcc16_limstk (v : BitVec 16) : (s.setAcc16 v).limstk = s.limstk := rfl
@[simp] theorem State.setAcc16_msgStartByte (v : BitVec 16) : (s.setAcc16 v).msgStartByte = s.msgStartByte := rfl
@[simp] theorem State.setAcc16_acc16 (v : BitVec 16) : (s.setAcc16 v).acc16 = v := rfl
@[simp] theorem State.setAcc16_acc32 (v : BitVec 16) : (s.setAcc16 v).acc32 = s.acc32 := rfl
@[simp] theorem State.setAcc16_session (v : BitVec 16) : (s.setAcc16 v).session = s.session := rfl
@[simp] theorem State.setAcc16_dir (v : BitVec 16) : (s.setAcc16 v).dir = s.dir := rfl
@[simp] theorem State.setAcc16_family (v : BitVec 16) : (s.setAcc16 v).family = s.family := rfl
@[simp] theorem State.setAcc16_msgKind (v : BitVec 16) : (s.setAcc16 v).msgKind = s.msgKind := rfl
@[simp] theorem State.setAcc16_inp (v : BitVec 16) : (s.setAcc16 v).inp = s.inp := rfl
@[simp] theorem State.setAcc16_altSamples (v : BitVec 16) : (s.setAcc16 v).altSamples = s.altSamples := rfl
@[simp] theorem State.setAcc16_state (v : BitVec 16) : (s.setAcc16 v).state = s.state := rfl
@[simp] theorem State.setAcc16_err (v : BitVec 16) : (s.setAcc16 v).err = s.err := rfl
@[simp] theorem State.setAcc16_errPos (v : BitVec 16) : (s.setAcc16 v).errPos = s.errPos := rfl
@[simp] theorem State.setAcc16_consumed (v : BitVec 16) : (s.setAcc16 v).consumed = s.consumed := rfl
@[simp] theorem State.setAcc16_wCrc (v : BitVec 16) : (s.setAcc16 v).wCrc = s.wCrc := rfl
@[simp] theorem State.setAcc16_wLen (v : BitVec 16) : (s.setAcc16 v).wLen = s.wLen := rfl
@[simp] theorem State.setAcc16_wUnk (v : BitVec 16) : (s.setAcc16 v).wUnk = s.wUnk := rfl
@[simp] theorem State.setAcc16_out (v : BitVec 16) : (s.setAcc16 v).out = s.out := rfl
@[simp] theorem State.setAcc16_warn (v : BitVec 16) : (s.setAcc16 v).warn = s.warn := rfl
@[simp] theorem State.setAcc16_cfg (v : BitVec 16) : (s.setAcc16 v).cfg = s.cfg := rfl
@[simp] theorem State.setAcc16_result (v : BitVec 16) : (s.setAcc16 v).result = s.result := rfl
@[simp] theorem State.setAcc16_port (v : BitVec 16) : (s.setAcc16 v).port = s.port := rfl
@[simp] theorem State.setAcc16_draws (v : BitVec 16) : (s.setAcc16 v).draws = s.draws := rfl

/-! ### `State.setAcc32` -/

@[simp] theorem State.setAcc32_mem (v : BitVec 32) : (s.setAcc32 v).mem = s.mem := rfl
@[simp] theorem State.setAcc32_len (v : BitVec 32) : (s.setAcc32 v).len = s.len := rfl
@[simp] theorem State.setAcc32_start (v : BitVec 32) : (s.setAcc32 v).start = s.start := rfl
@[simp] theorem State.setAcc32_pos (v : BitVec 32) : (s.setAcc32 v).pos = s.pos := rfl
@[simp] theorem State.setAcc32_limstk (v : BitVec 32) : (s.setAcc32 v).limstk = s.limstk := rfl
@[simp] theorem State.setAcc32_msgStartByte (v : BitVec 32) : (s.setAcc32 v).msgStartByte = s.msgStartByte := rfl
@[simp] theorem State.setAcc32_acc16 (v : BitVec 32) : (s.setAcc32 v).acc16 = s.acc16 := rfl
@[simp] theorem State.setAcc32_acc32 (v : BitVec 32) : (s.setAcc32 v).acc32 = v := rfl
@[simp] theorem State.setAcc32_session (v : BitVec 32) : (s.setAcc32 v).session = s.session := rfl
@[simp] theorem State.setAcc32_dir (v : BitVec 32) : (s.setAcc32 v).dir = s.dir := rfl
@[simp] theorem State.setAcc32_family (v : BitVec 32) : (s.setAcc32 v).family = s.family := rfl
@[simp] theorem State.setAcc32_msgKind (v : BitVec 32) : (s.setAcc32 v).msgKind = s.msgKind := rfl
@[simp] theorem State.setAcc32_inp (v : BitVec 32) : (s.setAcc32 v).inp = s.inp := rfl
@[simp] theorem State.setAcc32_altSamples (v : BitVec 32) : (s.setAcc32 v).altSamples = s.altSamples := rfl
@[simp] theorem State.setAcc32_state (v : BitVec 32) : (s.setAcc32 v).state = s.state := rfl
@[simp] theorem State.setAcc32_err (v : BitVec 32) : (s.setAcc32 v).err = s.err := rfl
@[simp] theorem State.setAcc32_errPos (v : BitVec 32) : (s.setAcc32 v).errPos = s.errPos := rfl
@[simp] theorem State.setAcc32_consumed (v : BitVec 32) : (s.setAcc32 v).consumed = s.consumed := rfl
@[simp] theorem State.setAcc32_wCrc (v : BitVec 32) : (s.setAcc32 v).wCrc = s.wCrc := rfl
@[simp] theorem State.setAcc32_wLen (v : BitVec 32) : (s.setAcc32 v).wLen = s.wLen := rfl
@[simp] theorem State.setAcc32_wUnk (v : BitVec 32) : (s.setAcc32 v).wUnk = s.wUnk := rfl
@[simp] theorem State.setAcc32_out (v : BitVec 32) : (s.setAcc32 v).out = s.out := rfl
@[simp] theorem State.setAcc32_warn (v : BitVec 32) : (s.setAcc32 v).warn = s.warn := rfl
@[simp] theorem State.setAcc32_cfg (v : BitVec 32) : (s.setAcc32 v).cfg = s.cfg := rfl
@[simp] theorem State.setAcc32_result (v : BitVec 32) : (s.setAcc32 v).result = s.result := rfl
@[simp] theorem State.setAcc32_port (v : BitVec 32) : (s.setAcc32 v).port = s.port := rfl
@[simp] theorem State.setAcc32_draws (v : BitVec 32) : (s.setAcc32 v).draws = s.draws := rfl

/-! ### `State.setDraws` -/

@[simp] theorem State.setDraws_mem (n : Nat) : (s.setDraws n).mem = s.mem := rfl
@[simp] theorem State.setDraws_len (n : Nat) : (s.setDraws n).len = s.len := rfl
@[simp] theorem State.setDraws_start (n : Nat) : (s.setDraws n).start = s.start := rfl
@[simp] theorem State.setDraws_pos (n : Nat) : (s.setDraws n).pos = s.pos := rfl
@[simp] theorem State.setDraws_limstk (n : Nat) : (s.setDraws n).limstk = s.limstk := rfl
@[simp] theorem State.setDraws_msgStartByte (n : Nat) : (s.setDraws n).msgStartByte = s.msgStartByte := rfl
@[simp] theorem State.setDraws_acc16 (n : Nat) : (s.setDraws n).acc16 = s.acc16 := rfl
@[simp] theorem State.setDraws_acc32 (n : Nat) : (s.setDraws n).acc32 = s.acc32 := rfl
@[simp] theorem State.setDraws_session (n : Nat) : (s.setDraws n).session = s.session := rfl
@[simp] theorem State.setDraws_dir (n : Nat) : (s.setDraws n).dir = s.dir := rfl
@[simp] theorem State.setDraws_family (n : Nat) : (s.setDraws n).family = s.family := rfl
@[simp] theorem State.setDraws_msgKind (n : Nat) : (s.setDraws n).msgKind = s.msgKind := rfl
@[simp] theorem State.setDraws_inp (n : Nat) : (s.setDraws n).inp = s.inp := rfl
@[simp] theorem State.setDraws_altSamples (n : Nat) : (s.setDraws n).altSamples = s.altSamples := rfl
@[simp] theorem State.setDraws_state (n : Nat) : (s.setDraws n).state = s.state := rfl
@[simp] theorem State.setDraws_err (n : Nat) : (s.setDraws n).err = s.err := rfl
@[simp] theorem State.setDraws_errPos (n : Nat) : (s.setDraws n).errPos = s.errPos := rfl
@[simp] theorem State.setDraws_consumed (n : Nat) : (s.setDraws n).consumed = s.consumed := rfl
@[simp] theorem State.setDraws_wCrc (n : Nat) : (s.setDraws n).wCrc = s.wCrc := rfl
@[simp] theorem State.setDraws_wLen (n : Nat) : (s.setDraws n).wLen = s.wLen := rfl
@[simp] theorem State.setDraws_wUnk (n : Nat) : (s.setDraws n).wUnk = s.wUnk := rfl
@[simp] theorem State.setDraws_out (n : Nat) : (s.setDraws n).out = s.out := rfl
@[simp] theorem State.setDraws_warn (n : Nat) : (s.setDraws n).warn = s.warn := rfl
@[simp] theorem State.setDraws_cfg (n : Nat) : (s.setDraws n).cfg = s.cfg := rfl
@[simp] theorem State.setDraws_result (n : Nat) : (s.setDraws n).result = s.result := rfl
@[simp] theorem State.setDraws_port (n : Nat) : (s.setDraws n).port = s.port := rfl
@[simp] theorem State.setDraws_draws (n : Nat) : (s.setDraws n).draws = n := rfl

/-! ### `State.setAlt` -/

@[simp] theorem State.setAlt_mem (l : List Bool) : (s.setAlt l).mem = s.mem := rfl
@[simp] theorem State.setAlt_len (l : List Bool) : (s.setAlt l).len = s.len := rfl
@[simp] theorem State.setAlt_start (l : List Bool) : (s.setAlt l).start = s.start := rfl
@[simp] theorem State.setAlt_pos (l : List Bool) : (s.setAlt l).pos = s.pos := rfl
@[simp] theorem State.setAlt_limstk (l : List Bool) : (s.setAlt l).limstk = s.limstk := rfl
@[simp] theorem State.setAlt_msgStartByte (l : List Bool) : (s.setAlt l).msgStartByte = s.msgStartByte := rfl
@[simp] theorem State.setAlt_acc16 (l : List Bool) : (s.setAlt l).acc16 = s.acc16 := rfl
@[simp] theorem State.setAlt_acc32 (l : List Bool) : (s.setAlt l).acc32 = s.acc32 := rfl
@[simp] theorem State.setAlt_session (l : List Bool) : (s.setAlt l).session = s.session := rfl
@[simp] theorem State.setAlt_dir (l : List Bool) : (s.setAlt l).dir = s.dir := rfl
@[simp] theorem State.setAlt_family (l : List Bool) : (s.setAlt l).family = s.family := rfl
@[simp] theorem State.setAlt_msgKind (l : List Bool) : (s.setAlt l).msgKind = s.msgKind := rfl
@[simp] theorem State.setAlt_inp (l : List Bool) : (s.setAlt l).inp = s.inp := rfl
@[simp] theorem State.setAlt_altSamples (l : List Bool) : (s.setAlt l).altSamples = l := rfl
@[simp] theorem State.setAlt_state (l : List Bool) : (s.setAlt l).state = s.state := rfl
@[simp] theorem State.setAlt_err (l : List Bool) : (s.setAlt l).err = s.err := rfl
@[simp] theorem State.setAlt_errPos (l : List Bool) : (s.setAlt l).errPos = s.errPos := rfl
@[simp] theorem State.setAlt_consumed (l : List Bool) : (s.setAlt l).consumed = s.consumed := rfl
@[simp] theorem State.setAlt_wCrc (l : List Bool) : (s.setAlt l).wCrc = s.wCrc := rfl
@[simp] theorem State.setAlt_wLen (l : List Bool) : (s.setAlt l).wLen = s.wLen := rfl
@[simp] theorem State.setAlt_wUnk (l : List Bool) : (s.setAlt l).wUnk = s.wUnk := rfl
@[simp] theorem State.setAlt_out (l : List Bool) : (s.setAlt l).out = s.out := rfl
@[simp] theorem State.setAlt_warn (l : List Bool) : (s.setAlt l).warn = s.warn := rfl
@[simp] theorem State.setAlt_cfg (l : List Bool) : (s.setAlt l).cfg = s.cfg := rfl
@[simp] theorem State.setAlt_result (l : List Bool) : (s.setAlt l).result = s.result := rfl
@[simp] theorem State.setAlt_port (l : List Bool) : (s.setAlt l).port = s.port := rfl
@[simp] theorem State.setAlt_draws (l : List Bool) : (s.setAlt l).draws = s.draws := rfl

/-! ### `State.setMsgStart` -/

@[simp] theorem State.setMsgStart_mem (b : Nat) : (s.setMsgStart b).mem = s.mem := rfl
@[simp] theorem State.setMsgStart_len (b : Nat) : (s.setMsgStart b).len = s.len := rfl
@[simp] theorem State.setMsgStart_start (b : Nat) : (s.setMsgStart b).start = s.start := rfl
@[simp] theorem State.setMsgStart_pos (b : Nat) : (s.setMsgStart b).pos = s.pos := rfl
@[simp] theorem State.setMsgStart_limstk (b : Nat) : (s.setMsgStart b).limstk = s.limstk := rfl
@[simp] theorem State.setMsgStart_msgStartByte (b : Nat) : (s.setMsgStart b).msgStartByte = b := rfl
@[simp] theorem State.setMsgStart_acc16 (b : Nat) : (s.setMsgStart b).acc16 = s.acc16 := rfl
@[simp] theorem State.setMsgStart_acc32 (b : Nat) : (s.setMsgStart b).acc32 = s.acc32 := rfl
@[simp] theorem State.setMsgStart_session (b : Nat) : (s.setMsgStart b).session = s.session := rfl
@[simp] theorem State.setMsgStart_dir (b : Nat) : (s.setMsgStart b).dir = s.dir := rfl
@[simp] theorem State.setMsgStart_family (b : Nat) : (s.setMsgStart b).family = s.family := rfl
@[simp] theorem State.setMsgStart_msgKind (b : Nat) : (s.setMsgStart b).msgKind = s.msgKind := rfl
@[simp] theorem State.setMsgStart_inp (b : Nat) : (s.setMsgStart b).inp = s.inp := rfl
@[simp] theorem State.setMsgStart_altSamples (b : Nat) : (s.setMsgStart b).altSamples = s.altSamples := rfl
@[simp] theorem State.setMsgStart_state (b : Nat) : (s.setMsgStart b).state = s.state := rfl
@[simp] theorem State.setMsgStart_err (b : Nat) : (s.setMsgStart b).err = s.err := rfl
@[simp] theorem State.setMsgStart_errPos (b : Nat) : (s.setMsgStart b).errPos = s.errPos := rfl
@[simp] theorem State.setMsgStart_consumed (b : Nat) : (s.setMsgStart b).consumed = s.consumed := rfl
@[simp] theorem State.setMsgStart_wCrc (b : Nat) : (s.setMsgStart b).wCrc = s.wCrc := rfl
@[simp] theorem State.setMsgStart_wLen (b : Nat) : (s.setMsgStart b).wLen = s.wLen := rfl
@[simp] theorem State.setMsgStart_wUnk (b : Nat) : (s.setMsgStart b).wUnk = s.wUnk := rfl
@[simp] theorem State.setMsgStart_out (b : Nat) : (s.setMsgStart b).out = s.out := rfl
@[simp] theorem State.setMsgStart_warn (b : Nat) : (s.setMsgStart b).warn = s.warn := rfl
@[simp] theorem State.setMsgStart_cfg (b : Nat) : (s.setMsgStart b).cfg = s.cfg := rfl
@[simp] theorem State.setMsgStart_result (b : Nat) : (s.setMsgStart b).result = s.result := rfl
@[simp] theorem State.setMsgStart_port (b : Nat) : (s.setMsgStart b).port = s.port := rfl
@[simp] theorem State.setMsgStart_draws (b : Nat) : (s.setMsgStart b).draws = s.draws := rfl

/-! ### `State.emit` -/

@[simp] theorem State.emit_mem (r : OutRec) : (s.emit r).mem = s.mem := rfl
@[simp] theorem State.emit_len (r : OutRec) : (s.emit r).len = s.len := rfl
@[simp] theorem State.emit_start (r : OutRec) : (s.emit r).start = s.start := rfl
@[simp] theorem State.emit_pos (r : OutRec) : (s.emit r).pos = s.pos := rfl
@[simp] theorem State.emit_limstk (r : OutRec) : (s.emit r).limstk = s.limstk := rfl
@[simp] theorem State.emit_msgStartByte (r : OutRec) : (s.emit r).msgStartByte = s.msgStartByte := rfl
@[simp] theorem State.emit_acc16 (r : OutRec) : (s.emit r).acc16 = s.acc16 := rfl
@[simp] theorem State.emit_acc32 (r : OutRec) : (s.emit r).acc32 = s.acc32 := rfl
@[simp] theorem State.emit_session (r : OutRec) : (s.emit r).session = s.session := rfl
@[simp] theorem State.emit_dir (r : OutRec) : (s.emit r).dir = s.dir := rfl
@[simp] theorem State.emit_family (r : OutRec) : (s.emit r).family = s.family := rfl
@[simp] theorem State.emit_msgKind (r : OutRec) : (s.emit r).msgKind = s.msgKind := rfl
@[simp] theorem State.emit_inp (r : OutRec) : (s.emit r).inp = s.inp := rfl
@[simp] theorem State.emit_altSamples (r : OutRec) : (s.emit r).altSamples = s.altSamples := rfl
@[simp] theorem State.emit_state (r : OutRec) : (s.emit r).state = s.state := rfl
@[simp] theorem State.emit_err (r : OutRec) : (s.emit r).err = s.err := rfl
@[simp] theorem State.emit_errPos (r : OutRec) : (s.emit r).errPos = s.errPos := rfl
@[simp] theorem State.emit_consumed (r : OutRec) : (s.emit r).consumed = s.consumed := rfl
@[simp] theorem State.emit_wCrc (r : OutRec) : (s.emit r).wCrc = s.wCrc := rfl
@[simp] theorem State.emit_wLen (r : OutRec) : (s.emit r).wLen = s.wLen := rfl
@[simp] theorem State.emit_wUnk (r : OutRec) : (s.emit r).wUnk = s.wUnk := rfl
@[simp] theorem State.emit_out (r : OutRec) : (s.emit r).out = s.out ++ [r] := rfl
@[simp] theorem State.emit_warn (r : OutRec) : (s.emit r).warn = s.warn := rfl
@[simp] theorem State.emit_cfg (r : OutRec) : (s.emit r).cfg = s.cfg := rfl
@[simp] theorem State.emit_result (r : OutRec) : (s.emit r).result = s.result := rfl
@[simp] theorem State.emit_port (r : OutRec) : (s.emit r).port = s.port := rfl
@[simp] theorem State.emit_draws (r : OutRec) : (s.emit r).draws = s.draws := rfl

/-! ### `State.addWarn` -/

@[simp] theorem State.addWarn_mem (w : WarnRec) : (s.addWarn w).mem = s.mem := rfl
@[simp] theorem State.addWarn_len (w : WarnRec) : (s.addWarn w).len = s.len := rfl
@[simp] theorem State.addWarn_start (w : WarnRec) : (s.addWarn w).start = s.start := rfl
@[simp] theorem State.addWarn_pos (w : WarnRec) : (s.addWarn w).pos = s.pos := rfl
@[simp] theorem State.addWarn_limstk (w : WarnRec) : (s.addWarn w).limstk = s.limstk := rfl
@[simp] theorem State.addWarn_msgStartByte (w : WarnRec) : (s.addWarn w).msgStartByte = s.msgStartByte := rfl
@[simp] theorem State.addWarn_acc16 (w : WarnRec) : (s.addWarn w).acc16 = s.acc16 := rfl
@[simp] theorem State.addWarn_acc32 (w : WarnRec) : (s.addWarn w).acc32 = s.acc32 := rfl
@[simp] theorem State.addWarn_session (w : WarnRec) : (s.addWarn w).session = s.session := rfl
@[simp] theorem State.addWarn_dir (w : WarnRec) : (s.addWarn w).dir = s.dir := rfl
@[simp] theorem State.addWarn_family (w : WarnRec) : (s.addWarn w).family = s.family := rfl
@[simp] theorem State.addWarn_msgKind (w : WarnRec) : (s.addWarn w).msgKind = s.msgKind := rfl
@[simp] theorem State.addWarn_inp (w : WarnRec) : (s.addWarn w).inp = s.inp := rfl
@[simp] theorem State.addWarn_altSamples (w : WarnRec) : (s.addWarn w).altSamples = s.altSamples := rfl
@[simp] theorem State.addWarn_state (w : WarnRec) : (s.addWarn w).state = s.state := rfl
@[simp] theorem State.addWarn_err (w : WarnRec) : (s.addWarn w).err = s.err := rfl
@[simp] theorem State.addWarn_errPos (w : WarnRec) : (s.addWarn w).errPos = s.errPos := rfl
@[simp] theorem State.addWarn_consumed (w : WarnRec) : (s.addWarn w).consumed = s.consumed := rfl
@[simp] theorem State.addWarn_wCrc (w : WarnRec) :
    (s.addWarn w).wCrc =
      (s.wCrc || decide (w.kind = .checksumMismatch)) := rfl
@[simp] theorem State.addWarn_wLen (w : WarnRec) :
    (s.addWarn w).wLen =
      (s.wLen || decide (w.kind = .lengthConsistency)) := rfl
@[simp] theorem State.addWarn_wUnk (w : WarnRec) :
    (s.addWarn w).wUnk =
      (s.wUnk || decide (w.kind = .unknownVariant)) := rfl
@[simp] theorem State.addWarn_out (w : WarnRec) : (s.addWarn w).out = s.out := rfl
@[simp] theorem State.addWarn_warn (w : WarnRec) : (s.addWarn w).warn = s.warn ++ [w] := rfl
@[simp] theorem State.addWarn_cfg (w : WarnRec) : (s.addWarn w).cfg = s.cfg := rfl
@[simp] theorem State.addWarn_result (w : WarnRec) : (s.addWarn w).result = s.result := rfl
@[simp] theorem State.addWarn_port (w : WarnRec) : (s.addWarn w).port = s.port := rfl
@[simp] theorem State.addWarn_draws (w : WarnRec) : (s.addWarn w).draws = s.draws := rfl

/-! ### `State.setRoute` -/

@[simp] theorem State.setRoute_mem (d : Dir) (f : Family) : (s.setRoute d f).mem = s.mem := rfl
@[simp] theorem State.setRoute_len (d : Dir) (f : Family) : (s.setRoute d f).len = s.len := rfl
@[simp] theorem State.setRoute_start (d : Dir) (f : Family) : (s.setRoute d f).start = s.start := rfl
@[simp] theorem State.setRoute_pos (d : Dir) (f : Family) : (s.setRoute d f).pos = s.pos := rfl
@[simp] theorem State.setRoute_limstk (d : Dir) (f : Family) : (s.setRoute d f).limstk = s.limstk := rfl
@[simp] theorem State.setRoute_msgStartByte (d : Dir) (f : Family) :
    (s.setRoute d f).msgStartByte =
      s.msgStartByte := rfl
@[simp] theorem State.setRoute_acc16 (d : Dir) (f : Family) : (s.setRoute d f).acc16 = s.acc16 := rfl
@[simp] theorem State.setRoute_acc32 (d : Dir) (f : Family) : (s.setRoute d f).acc32 = s.acc32 := rfl
@[simp] theorem State.setRoute_session (d : Dir) (f : Family) : (s.setRoute d f).session = s.session := rfl
@[simp] theorem State.setRoute_dir (d : Dir) (f : Family) : (s.setRoute d f).dir = d := rfl
@[simp] theorem State.setRoute_family (d : Dir) (f : Family) : (s.setRoute d f).family = f := rfl
@[simp] theorem State.setRoute_msgKind (d : Dir) (f : Family) : (s.setRoute d f).msgKind = s.msgKind := rfl
@[simp] theorem State.setRoute_inp (d : Dir) (f : Family) : (s.setRoute d f).inp = s.inp := rfl
@[simp] theorem State.setRoute_altSamples (d : Dir) (f : Family) : (s.setRoute d f).altSamples = s.altSamples := rfl
@[simp] theorem State.setRoute_state (d : Dir) (f : Family) : (s.setRoute d f).state = s.state := rfl
@[simp] theorem State.setRoute_err (d : Dir) (f : Family) : (s.setRoute d f).err = s.err := rfl
@[simp] theorem State.setRoute_errPos (d : Dir) (f : Family) : (s.setRoute d f).errPos = s.errPos := rfl
@[simp] theorem State.setRoute_consumed (d : Dir) (f : Family) : (s.setRoute d f).consumed = s.consumed := rfl
@[simp] theorem State.setRoute_wCrc (d : Dir) (f : Family) : (s.setRoute d f).wCrc = s.wCrc := rfl
@[simp] theorem State.setRoute_wLen (d : Dir) (f : Family) : (s.setRoute d f).wLen = s.wLen := rfl
@[simp] theorem State.setRoute_wUnk (d : Dir) (f : Family) : (s.setRoute d f).wUnk = s.wUnk := rfl
@[simp] theorem State.setRoute_out (d : Dir) (f : Family) : (s.setRoute d f).out = s.out := rfl
@[simp] theorem State.setRoute_warn (d : Dir) (f : Family) : (s.setRoute d f).warn = s.warn := rfl
@[simp] theorem State.setRoute_cfg (d : Dir) (f : Family) : (s.setRoute d f).cfg = s.cfg := rfl
@[simp] theorem State.setRoute_result (d : Dir) (f : Family) : (s.setRoute d f).result = s.result := rfl
@[simp] theorem State.setRoute_port (d : Dir) (f : Family) : (s.setRoute d f).port = s.port := rfl
@[simp] theorem State.setRoute_draws (d : Dir) (f : Family) : (s.setRoute d f).draws = s.draws := rfl

/-! ### `State.startIe` -/

@[simp] theorem State.startIe_mem : (s.startIe).mem = s.mem := rfl
@[simp] theorem State.startIe_len : (s.startIe).len = s.len := rfl
@[simp] theorem State.startIe_start : (s.startIe).start = s.start := rfl
@[simp] theorem State.startIe_pos : (s.startIe).pos = s.pos := rfl
@[simp] theorem State.startIe_limstk : (s.startIe).limstk = s.limstk := rfl
@[simp] theorem State.startIe_msgStartByte : (s.startIe).msgStartByte = s.msgStartByte := rfl
@[simp] theorem State.startIe_acc16 : (s.startIe).acc16 = s.acc16 := rfl
@[simp] theorem State.startIe_acc32 : (s.startIe).acc32 = s.acc32 := rfl
@[simp] theorem State.startIe_session : (s.startIe).session = s.session := rfl
@[simp] theorem State.startIe_dir : (s.startIe).dir = s.dir := rfl
@[simp] theorem State.startIe_family : (s.startIe).family = s.family := rfl
@[simp] theorem State.startIe_msgKind : (s.startIe).msgKind = s.msgKind := rfl
@[simp] theorem State.startIe_inp : (s.startIe).inp = s.inp := rfl
@[simp] theorem State.startIe_altSamples : (s.startIe).altSamples = s.altSamples := rfl
@[simp] theorem State.startIe_state : (s.startIe).state = .ieType := rfl
@[simp] theorem State.startIe_err : (s.startIe).err = 0 := rfl
@[simp] theorem State.startIe_errPos : (s.startIe).errPos = 0 := rfl
@[simp] theorem State.startIe_consumed : (s.startIe).consumed = s.consumed := rfl
@[simp] theorem State.startIe_wCrc : (s.startIe).wCrc = s.wCrc := rfl
@[simp] theorem State.startIe_wLen : (s.startIe).wLen = s.wLen := rfl
@[simp] theorem State.startIe_wUnk : (s.startIe).wUnk = s.wUnk := rfl
@[simp] theorem State.startIe_out : (s.startIe).out = s.out := rfl
@[simp] theorem State.startIe_warn : (s.startIe).warn = s.warn := rfl
@[simp] theorem State.startIe_cfg : (s.startIe).cfg = s.cfg := rfl
@[simp] theorem State.startIe_result : (s.startIe).result = s.result := rfl
@[simp] theorem State.startIe_port : (s.startIe).port = s.port := rfl
@[simp] theorem State.startIe_draws : (s.startIe).draws = s.draws := rfl

/-! ### `State.initCall` -/

@[simp] theorem State.initCall_mem (p : Nat) : (s.initCall p).mem = s.mem := rfl
@[simp] theorem State.initCall_len (p : Nat) : (s.initCall p).len = s.inp.len := rfl
@[simp] theorem State.initCall_start (p : Nat) : (s.initCall p).start = p := rfl
@[simp] theorem State.initCall_pos (p : Nat) : (s.initCall p).pos = p := rfl
@[simp] theorem State.initCall_limstk (p : Nat) : (s.initCall p).limstk = [] := rfl
@[simp] theorem State.initCall_msgStartByte (p : Nat) : (s.initCall p).msgStartByte = p / 8 := rfl
@[simp] theorem State.initCall_acc16 (p : Nat) : (s.initCall p).acc16 = s.acc16 := rfl
@[simp] theorem State.initCall_acc32 (p : Nat) : (s.initCall p).acc32 = s.acc32 := rfl
@[simp] theorem State.initCall_session (p : Nat) : (s.initCall p).session = s.session := rfl
@[simp] theorem State.initCall_dir (p : Nat) : (s.initCall p).dir = s.dir := rfl
@[simp] theorem State.initCall_family (p : Nat) : (s.initCall p).family = s.family := rfl
@[simp] theorem State.initCall_msgKind (p : Nat) : (s.initCall p).msgKind = s.msgKind := rfl
@[simp] theorem State.initCall_inp (p : Nat) : (s.initCall p).inp = s.inp := rfl
@[simp] theorem State.initCall_altSamples (p : Nat) : (s.initCall p).altSamples = s.altSamples := rfl
@[simp] theorem State.initCall_state (p : Nat) : (s.initCall p).state = .idle := rfl
@[simp] theorem State.initCall_err (p : Nat) : (s.initCall p).err = 0 := rfl
@[simp] theorem State.initCall_errPos (p : Nat) : (s.initCall p).errPos = 0 := rfl
@[simp] theorem State.initCall_consumed (p : Nat) : (s.initCall p).consumed = 0 := rfl
@[simp] theorem State.initCall_wCrc (p : Nat) : (s.initCall p).wCrc = false := rfl
@[simp] theorem State.initCall_wLen (p : Nat) : (s.initCall p).wLen = false := rfl
@[simp] theorem State.initCall_wUnk (p : Nat) : (s.initCall p).wUnk = false := rfl
@[simp] theorem State.initCall_out (p : Nat) : (s.initCall p).out = [] := rfl
@[simp] theorem State.initCall_warn (p : Nat) : (s.initCall p).warn = [] := rfl
@[simp] theorem State.initCall_cfg (p : Nat) : (s.initCall p).cfg = s.cfg := rfl
@[simp] theorem State.initCall_result (p : Nat) : (s.initCall p).result = s.result := rfl
@[simp] theorem State.initCall_port (p : Nat) : (s.initCall p).port = s.port := rfl
@[simp] theorem State.initCall_draws (p : Nat) : (s.initCall p).draws = s.draws := rfl

/-! ### `State.accept` -/

@[simp] theorem State.accept_mem (a : Accompaniment) : (s.accept a).mem = ofBytes 0 a.bytes := rfl
@[simp] theorem State.accept_len (a : Accompaniment) : (s.accept a).len = s.len := rfl
@[simp] theorem State.accept_start (a : Accompaniment) : (s.accept a).start = s.start := rfl
@[simp] theorem State.accept_pos (a : Accompaniment) : (s.accept a).pos = s.pos := rfl
@[simp] theorem State.accept_limstk (a : Accompaniment) : (s.accept a).limstk = s.limstk := rfl
@[simp] theorem State.accept_msgStartByte (a : Accompaniment) : (s.accept a).msgStartByte = s.msgStartByte := rfl
@[simp] theorem State.accept_acc16 (a : Accompaniment) : (s.accept a).acc16 = s.acc16 := rfl
@[simp] theorem State.accept_acc32 (a : Accompaniment) : (s.accept a).acc32 = s.acc32 := rfl
@[simp] theorem State.accept_session (a : Accompaniment) : (s.accept a).session = s.session := rfl
@[simp] theorem State.accept_dir (a : Accompaniment) : (s.accept a).dir = s.dir := rfl
@[simp] theorem State.accept_family (a : Accompaniment) : (s.accept a).family = s.family := rfl
@[simp] theorem State.accept_msgKind (a : Accompaniment) : (s.accept a).msgKind = s.msgKind := rfl
@[simp] theorem State.accept_inp (a : Accompaniment) :
    (s.accept a).inp =
      { len := a.bytes.length, start := a.start, msgLenBits := a.msgLenBits, cqichIdWidth := a.cqichIdWidth, includeCor2Changes := a.includeCor2Changes } := rfl
@[simp] theorem State.accept_altSamples (a : Accompaniment) : (s.accept a).altSamples = a.altSamples := rfl
@[simp] theorem State.accept_state (a : Accompaniment) : (s.accept a).state = s.state := rfl
@[simp] theorem State.accept_err (a : Accompaniment) : (s.accept a).err = s.err := rfl
@[simp] theorem State.accept_errPos (a : Accompaniment) : (s.accept a).errPos = s.errPos := rfl
@[simp] theorem State.accept_consumed (a : Accompaniment) : (s.accept a).consumed = s.consumed := rfl
@[simp] theorem State.accept_wCrc (a : Accompaniment) : (s.accept a).wCrc = s.wCrc := rfl
@[simp] theorem State.accept_wLen (a : Accompaniment) : (s.accept a).wLen = s.wLen := rfl
@[simp] theorem State.accept_wUnk (a : Accompaniment) : (s.accept a).wUnk = s.wUnk := rfl
@[simp] theorem State.accept_out (a : Accompaniment) : (s.accept a).out = s.out := rfl
@[simp] theorem State.accept_warn (a : Accompaniment) : (s.accept a).warn = s.warn := rfl
@[simp] theorem State.accept_cfg (a : Accompaniment) : (s.accept a).cfg = s.cfg := rfl
@[simp] theorem State.accept_result (a : Accompaniment) : (s.accept a).result = s.result := rfl
@[simp] theorem State.accept_port (a : Accompaniment) : (s.accept a).port = s.port := rfl
@[simp] theorem State.accept_draws (a : Accompaniment) : (s.accept a).draws = s.draws := rfl

/-! ### `State.stop` -/

@[simp] theorem State.stop_mem (e : ErrKind) (p : Nat) : (s.stop e p).mem = s.mem := rfl
@[simp] theorem State.stop_len (e : ErrKind) (p : Nat) : (s.stop e p).len = s.len := rfl
@[simp] theorem State.stop_start (e : ErrKind) (p : Nat) : (s.stop e p).start = s.start := rfl
@[simp] theorem State.stop_pos (e : ErrKind) (p : Nat) : (s.stop e p).pos = s.pos := rfl
@[simp] theorem State.stop_limstk (e : ErrKind) (p : Nat) : (s.stop e p).limstk = s.limstk := rfl
@[simp] theorem State.stop_msgStartByte (e : ErrKind) (p : Nat) : (s.stop e p).msgStartByte = s.msgStartByte := rfl
@[simp] theorem State.stop_acc16 (e : ErrKind) (p : Nat) : (s.stop e p).acc16 = s.acc16 := rfl
@[simp] theorem State.stop_acc32 (e : ErrKind) (p : Nat) : (s.stop e p).acc32 = s.acc32 := rfl
@[simp] theorem State.stop_session (e : ErrKind) (p : Nat) : (s.stop e p).session = s.session := rfl
@[simp] theorem State.stop_dir (e : ErrKind) (p : Nat) : (s.stop e p).dir = s.dir := rfl
@[simp] theorem State.stop_family (e : ErrKind) (p : Nat) : (s.stop e p).family = s.family := rfl
@[simp] theorem State.stop_msgKind (e : ErrKind) (p : Nat) : (s.stop e p).msgKind = s.msgKind := rfl
@[simp] theorem State.stop_inp (e : ErrKind) (p : Nat) : (s.stop e p).inp = s.inp := rfl
@[simp] theorem State.stop_altSamples (e : ErrKind) (p : Nat) : (s.stop e p).altSamples = s.altSamples := rfl
@[simp] theorem State.stop_state (e : ErrKind) (p : Nat) : (s.stop e p).state = .stopped := rfl
@[simp] theorem State.stop_err (e : ErrKind) (p : Nat) : (s.stop e p).err = errCode e := rfl
@[simp] theorem State.stop_errPos (e : ErrKind) (p : Nat) : (s.stop e p).errPos = p := rfl
@[simp] theorem State.stop_consumed (e : ErrKind) (p : Nat) : (s.stop e p).consumed = s.pos - s.start := rfl
@[simp] theorem State.stop_wCrc (e : ErrKind) (p : Nat) : (s.stop e p).wCrc = s.wCrc := rfl
@[simp] theorem State.stop_wLen (e : ErrKind) (p : Nat) : (s.stop e p).wLen = s.wLen := rfl
@[simp] theorem State.stop_wUnk (e : ErrKind) (p : Nat) : (s.stop e p).wUnk = s.wUnk := rfl
@[simp] theorem State.stop_out (e : ErrKind) (p : Nat) : (s.stop e p).out = s.out := rfl
@[simp] theorem State.stop_warn (e : ErrKind) (p : Nat) : (s.stop e p).warn = s.warn := rfl
@[simp] theorem State.stop_cfg (e : ErrKind) (p : Nat) : (s.stop e p).cfg = s.cfg := rfl
@[simp] theorem State.stop_result (e : ErrKind) (p : Nat) : (s.stop e p).result = .error e p := rfl
@[simp] theorem State.stop_port (e : ErrKind) (p : Nat) : (s.stop e p).port = s.port := rfl
@[simp] theorem State.stop_draws (e : ErrKind) (p : Nat) : (s.stop e p).draws = s.draws := rfl

/-! ### `State.finish` -/

@[simp] theorem State.finish_mem : (s.finish).mem = s.mem := rfl
@[simp] theorem State.finish_len : (s.finish).len = s.len := rfl
@[simp] theorem State.finish_start : (s.finish).start = s.start := rfl
@[simp] theorem State.finish_pos : (s.finish).pos = s.pos := rfl
@[simp] theorem State.finish_limstk : (s.finish).limstk = s.limstk := rfl
@[simp] theorem State.finish_msgStartByte : (s.finish).msgStartByte = s.msgStartByte := rfl
@[simp] theorem State.finish_acc16 : (s.finish).acc16 = s.acc16 := rfl
@[simp] theorem State.finish_acc32 : (s.finish).acc32 = s.acc32 := rfl
@[simp] theorem State.finish_session : (s.finish).session = s.session := rfl
@[simp] theorem State.finish_dir : (s.finish).dir = s.dir := rfl
@[simp] theorem State.finish_family : (s.finish).family = s.family := rfl
@[simp] theorem State.finish_msgKind : (s.finish).msgKind = s.msgKind := rfl
@[simp] theorem State.finish_inp : (s.finish).inp = s.inp := rfl
@[simp] theorem State.finish_altSamples : (s.finish).altSamples = s.altSamples := rfl
@[simp] theorem State.finish_state : (s.finish).state = .done := rfl
@[simp] theorem State.finish_err : (s.finish).err = s.err := rfl
@[simp] theorem State.finish_errPos : (s.finish).errPos = s.errPos := rfl
@[simp] theorem State.finish_consumed : (s.finish).consumed = s.pos - s.start := rfl
@[simp] theorem State.finish_wCrc : (s.finish).wCrc = s.wCrc := rfl
@[simp] theorem State.finish_wLen : (s.finish).wLen = s.wLen := rfl
@[simp] theorem State.finish_wUnk : (s.finish).wUnk = s.wUnk := rfl
@[simp] theorem State.finish_out : (s.finish).out = s.out := rfl
@[simp] theorem State.finish_warn : (s.finish).warn = s.warn := rfl
@[simp] theorem State.finish_cfg : (s.finish).cfg = s.cfg := rfl
@[simp] theorem State.finish_result : (s.finish).result = .done := rfl
@[simp] theorem State.finish_port : (s.finish).port = s.port := rfl
@[simp] theorem State.finish_draws : (s.finish).draws = s.draws := rfl

/-! ### `State.enterMsg` -/

@[simp] theorem State.enterMsg_mem (k : MsgKind) : (s.enterMsg k).mem = s.mem := rfl
@[simp] theorem State.enterMsg_len (k : MsgKind) : (s.enterMsg k).len = s.len := rfl
@[simp] theorem State.enterMsg_start (k : MsgKind) : (s.enterMsg k).start = s.start := rfl
@[simp] theorem State.enterMsg_pos (k : MsgKind) : (s.enterMsg k).pos = s.pos := rfl
@[simp] theorem State.enterMsg_limstk (k : MsgKind) : (s.enterMsg k).limstk = s.limstk := rfl
@[simp] theorem State.enterMsg_msgStartByte (k : MsgKind) : (s.enterMsg k).msgStartByte = s.msgStartByte := rfl
@[simp] theorem State.enterMsg_acc16 (k : MsgKind) : (s.enterMsg k).acc16 = s.acc16 := rfl
@[simp] theorem State.enterMsg_acc32 (k : MsgKind) : (s.enterMsg k).acc32 = s.acc32 := rfl
@[simp] theorem State.enterMsg_session (k : MsgKind) : (s.enterMsg k).session = s.cfg.sessionInit := rfl
@[simp] theorem State.enterMsg_dir (k : MsgKind) : (s.enterMsg k).dir = (kindArgs s.cfg k).1 := rfl
@[simp] theorem State.enterMsg_family (k : MsgKind) : (s.enterMsg k).family = (kindArgs s.cfg k).2 := rfl
@[simp] theorem State.enterMsg_msgKind (k : MsgKind) : (s.enterMsg k).msgKind = k := rfl
@[simp] theorem State.enterMsg_inp (k : MsgKind) : (s.enterMsg k).inp = s.inp := rfl
@[simp] theorem State.enterMsg_altSamples (k : MsgKind) : (s.enterMsg k).altSamples = s.altSamples := rfl
@[simp] theorem State.enterMsg_state (k : MsgKind) : (s.enterMsg k).state = s.state := rfl
@[simp] theorem State.enterMsg_err (k : MsgKind) : (s.enterMsg k).err = s.err := rfl
@[simp] theorem State.enterMsg_errPos (k : MsgKind) : (s.enterMsg k).errPos = s.errPos := rfl
@[simp] theorem State.enterMsg_consumed (k : MsgKind) : (s.enterMsg k).consumed = s.consumed := rfl
@[simp] theorem State.enterMsg_wCrc (k : MsgKind) : (s.enterMsg k).wCrc = s.wCrc := rfl
@[simp] theorem State.enterMsg_wLen (k : MsgKind) : (s.enterMsg k).wLen = s.wLen := rfl
@[simp] theorem State.enterMsg_wUnk (k : MsgKind) : (s.enterMsg k).wUnk = s.wUnk := rfl
@[simp] theorem State.enterMsg_out (k : MsgKind) : (s.enterMsg k).out = s.out := rfl
@[simp] theorem State.enterMsg_warn (k : MsgKind) : (s.enterMsg k).warn = s.warn := rfl
@[simp] theorem State.enterMsg_cfg (k : MsgKind) : (s.enterMsg k).cfg = s.cfg := rfl
@[simp] theorem State.enterMsg_result (k : MsgKind) : (s.enterMsg k).result = s.result := rfl
@[simp] theorem State.enterMsg_port (k : MsgKind) : (s.enterMsg k).port = s.port := rfl
@[simp] theorem State.enterMsg_draws (k : MsgKind) : (s.enterMsg k).draws = s.draws := rfl

/-! ### The views `TOTAL`, `EB`, `REM`, `DREM` see only LEN, POS and LIMSTK -/

@[simp] theorem State.setSeq_total (q : SeqState) : (s.setSeq q).total = s.total := rfl
@[simp] theorem State.setSeq_effBound (q : SeqState) : (s.setSeq q).effBound = s.effBound := rfl
@[simp] theorem State.setSeq_rem (q : SeqState) : (s.setSeq q).rem = s.rem := rfl
@[simp] theorem State.setSeq_drem (q : SeqState) : (s.setSeq q).drem = s.drem := rfl
@[simp] theorem State.setSeq_topLimit (q : SeqState) : (s.setSeq q).topLimit = s.topLimit := rfl
@[simp] theorem State.setSeq_turnBound (q : SeqState) : (s.setSeq q).turnBound = s.turnBound := rfl

@[simp] theorem State.setResult_total (r : Response) : (s.setResult r).total = s.total := rfl
@[simp] theorem State.setResult_effBound (r : Response) : (s.setResult r).effBound = s.effBound := rfl
@[simp] theorem State.setResult_rem (r : Response) : (s.setResult r).rem = s.rem := rfl
@[simp] theorem State.setResult_drem (r : Response) : (s.setResult r).drem = s.drem := rfl
@[simp] theorem State.setResult_topLimit (r : Response) : (s.setResult r).topLimit = s.topLimit := rfl
@[simp] theorem State.setResult_turnBound (r : Response) : (s.setResult r).turnBound = s.turnBound := rfl

@[simp] theorem State.setSession_total (x : Session) : (s.setSession x).total = s.total := rfl
@[simp] theorem State.setSession_effBound (x : Session) : (s.setSession x).effBound = s.effBound := rfl
@[simp] theorem State.setSession_rem (x : Session) : (s.setSession x).rem = s.rem := rfl
@[simp] theorem State.setSession_drem (x : Session) : (s.setSession x).drem = s.drem := rfl
@[simp] theorem State.setSession_topLimit (x : Session) : (s.setSession x).topLimit = s.topLimit := rfl
@[simp] theorem State.setSession_turnBound (x : Session) : (s.setSession x).turnBound = s.turnBound := rfl

@[simp] theorem State.setAcc16_total (v : BitVec 16) : (s.setAcc16 v).total = s.total := rfl
@[simp] theorem State.setAcc16_effBound (v : BitVec 16) : (s.setAcc16 v).effBound = s.effBound := rfl
@[simp] theorem State.setAcc16_rem (v : BitVec 16) : (s.setAcc16 v).rem = s.rem := rfl
@[simp] theorem State.setAcc16_drem (v : BitVec 16) : (s.setAcc16 v).drem = s.drem := rfl
@[simp] theorem State.setAcc16_topLimit (v : BitVec 16) : (s.setAcc16 v).topLimit = s.topLimit := rfl
@[simp] theorem State.setAcc16_turnBound (v : BitVec 16) : (s.setAcc16 v).turnBound = s.turnBound := rfl

@[simp] theorem State.setAcc32_total (v : BitVec 32) : (s.setAcc32 v).total = s.total := rfl
@[simp] theorem State.setAcc32_effBound (v : BitVec 32) : (s.setAcc32 v).effBound = s.effBound := rfl
@[simp] theorem State.setAcc32_rem (v : BitVec 32) : (s.setAcc32 v).rem = s.rem := rfl
@[simp] theorem State.setAcc32_drem (v : BitVec 32) : (s.setAcc32 v).drem = s.drem := rfl
@[simp] theorem State.setAcc32_topLimit (v : BitVec 32) : (s.setAcc32 v).topLimit = s.topLimit := rfl
@[simp] theorem State.setAcc32_turnBound (v : BitVec 32) : (s.setAcc32 v).turnBound = s.turnBound := rfl

@[simp] theorem State.setDraws_total (n : Nat) : (s.setDraws n).total = s.total := rfl
@[simp] theorem State.setDraws_effBound (n : Nat) : (s.setDraws n).effBound = s.effBound := rfl
@[simp] theorem State.setDraws_rem (n : Nat) : (s.setDraws n).rem = s.rem := rfl
@[simp] theorem State.setDraws_drem (n : Nat) : (s.setDraws n).drem = s.drem := rfl
@[simp] theorem State.setDraws_topLimit (n : Nat) : (s.setDraws n).topLimit = s.topLimit := rfl
@[simp] theorem State.setDraws_turnBound (n : Nat) : (s.setDraws n).turnBound = s.turnBound := rfl

@[simp] theorem State.setAlt_total (l : List Bool) : (s.setAlt l).total = s.total := rfl
@[simp] theorem State.setAlt_effBound (l : List Bool) : (s.setAlt l).effBound = s.effBound := rfl
@[simp] theorem State.setAlt_rem (l : List Bool) : (s.setAlt l).rem = s.rem := rfl
@[simp] theorem State.setAlt_drem (l : List Bool) : (s.setAlt l).drem = s.drem := rfl
@[simp] theorem State.setAlt_topLimit (l : List Bool) : (s.setAlt l).topLimit = s.topLimit := rfl
@[simp] theorem State.setAlt_turnBound (l : List Bool) : (s.setAlt l).turnBound = s.turnBound := rfl

@[simp] theorem State.setMsgStart_total (b : Nat) : (s.setMsgStart b).total = s.total := rfl
@[simp] theorem State.setMsgStart_effBound (b : Nat) : (s.setMsgStart b).effBound = s.effBound := rfl
@[simp] theorem State.setMsgStart_rem (b : Nat) : (s.setMsgStart b).rem = s.rem := rfl
@[simp] theorem State.setMsgStart_drem (b : Nat) : (s.setMsgStart b).drem = s.drem := rfl
@[simp] theorem State.setMsgStart_topLimit (b : Nat) : (s.setMsgStart b).topLimit = s.topLimit := rfl
@[simp] theorem State.setMsgStart_turnBound (b : Nat) : (s.setMsgStart b).turnBound = s.turnBound := rfl

@[simp] theorem State.emit_total (r : OutRec) : (s.emit r).total = s.total := rfl
@[simp] theorem State.emit_effBound (r : OutRec) : (s.emit r).effBound = s.effBound := rfl
@[simp] theorem State.emit_rem (r : OutRec) : (s.emit r).rem = s.rem := rfl
@[simp] theorem State.emit_drem (r : OutRec) : (s.emit r).drem = s.drem := rfl
@[simp] theorem State.emit_topLimit (r : OutRec) : (s.emit r).topLimit = s.topLimit := rfl
@[simp] theorem State.emit_turnBound (r : OutRec) : (s.emit r).turnBound = s.turnBound := rfl

@[simp] theorem State.addWarn_total (w : WarnRec) : (s.addWarn w).total = s.total := rfl
@[simp] theorem State.addWarn_effBound (w : WarnRec) : (s.addWarn w).effBound = s.effBound := rfl
@[simp] theorem State.addWarn_rem (w : WarnRec) : (s.addWarn w).rem = s.rem := rfl
@[simp] theorem State.addWarn_drem (w : WarnRec) : (s.addWarn w).drem = s.drem := rfl
@[simp] theorem State.addWarn_topLimit (w : WarnRec) : (s.addWarn w).topLimit = s.topLimit := rfl
@[simp] theorem State.addWarn_turnBound (w : WarnRec) : (s.addWarn w).turnBound = s.turnBound := rfl

@[simp] theorem State.setRoute_total (d : Dir) (f : Family) : (s.setRoute d f).total = s.total := rfl
@[simp] theorem State.setRoute_effBound (d : Dir) (f : Family) : (s.setRoute d f).effBound = s.effBound := rfl
@[simp] theorem State.setRoute_rem (d : Dir) (f : Family) : (s.setRoute d f).rem = s.rem := rfl
@[simp] theorem State.setRoute_drem (d : Dir) (f : Family) : (s.setRoute d f).drem = s.drem := rfl
@[simp] theorem State.setRoute_topLimit (d : Dir) (f : Family) : (s.setRoute d f).topLimit = s.topLimit := rfl
@[simp] theorem State.setRoute_turnBound (d : Dir) (f : Family) : (s.setRoute d f).turnBound = s.turnBound := rfl

@[simp] theorem State.startIe_total : (s.startIe).total = s.total := rfl
@[simp] theorem State.startIe_effBound : (s.startIe).effBound = s.effBound := rfl
@[simp] theorem State.startIe_rem : (s.startIe).rem = s.rem := rfl
@[simp] theorem State.startIe_drem : (s.startIe).drem = s.drem := rfl
@[simp] theorem State.startIe_topLimit : (s.startIe).topLimit = s.topLimit := rfl
@[simp] theorem State.startIe_turnBound : (s.startIe).turnBound = s.turnBound := rfl

@[simp] theorem State.accept_total (a : Accompaniment) : (s.accept a).total = s.total := rfl
@[simp] theorem State.accept_effBound (a : Accompaniment) : (s.accept a).effBound = s.effBound := rfl
@[simp] theorem State.accept_rem (a : Accompaniment) : (s.accept a).rem = s.rem := rfl
@[simp] theorem State.accept_drem (a : Accompaniment) : (s.accept a).drem = s.drem := rfl
@[simp] theorem State.accept_topLimit (a : Accompaniment) : (s.accept a).topLimit = s.topLimit := rfl
@[simp] theorem State.accept_turnBound (a : Accompaniment) : (s.accept a).turnBound = s.turnBound := rfl

@[simp] theorem State.stop_total (e : ErrKind) (p : Nat) : (s.stop e p).total = s.total := rfl
@[simp] theorem State.stop_effBound (e : ErrKind) (p : Nat) : (s.stop e p).effBound = s.effBound := rfl
@[simp] theorem State.stop_rem (e : ErrKind) (p : Nat) : (s.stop e p).rem = s.rem := rfl
@[simp] theorem State.stop_drem (e : ErrKind) (p : Nat) : (s.stop e p).drem = s.drem := rfl
@[simp] theorem State.stop_topLimit (e : ErrKind) (p : Nat) : (s.stop e p).topLimit = s.topLimit := rfl
@[simp] theorem State.stop_turnBound (e : ErrKind) (p : Nat) : (s.stop e p).turnBound = s.turnBound := rfl

@[simp] theorem State.finish_total : (s.finish).total = s.total := rfl
@[simp] theorem State.finish_effBound : (s.finish).effBound = s.effBound := rfl
@[simp] theorem State.finish_rem : (s.finish).rem = s.rem := rfl
@[simp] theorem State.finish_drem : (s.finish).drem = s.drem := rfl
@[simp] theorem State.finish_topLimit : (s.finish).topLimit = s.topLimit := rfl
@[simp] theorem State.finish_turnBound : (s.finish).turnBound = s.turnBound := rfl

@[simp] theorem State.enterMsg_total (k : MsgKind) : (s.enterMsg k).total = s.total := rfl
@[simp] theorem State.enterMsg_effBound (k : MsgKind) : (s.enterMsg k).effBound = s.effBound := rfl
@[simp] theorem State.enterMsg_rem (k : MsgKind) : (s.enterMsg k).rem = s.rem := rfl
@[simp] theorem State.enterMsg_drem (k : MsgKind) : (s.enterMsg k).drem = s.drem := rfl
@[simp] theorem State.enterMsg_topLimit (k : MsgKind) : (s.enterMsg k).topLimit = s.topLimit := rfl
@[simp] theorem State.enterMsg_turnBound (k : MsgKind) : (s.enterMsg k).turnBound = s.turnBound := rfl

@[simp] theorem State.setPos_total (p : Nat) : (s.setPos p).total = s.total := rfl
@[simp] theorem State.setPos_effBound (p : Nat) : (s.setPos p).effBound = s.effBound := rfl
@[simp] theorem State.setPos_topLimit (p : Nat) : (s.setPos p).topLimit = s.topLimit := rfl
@[simp] theorem State.setPos_rem (p : Nat) : (s.setPos p).rem = s.effBound - p := rfl
@[simp] theorem State.setLimstk_total (l : List Nat) : (s.setLimstk l).total = s.total := rfl

end Sys2Proof.Machine
end

