-- ==== Sys2Proof/Laws/Sub.lean ====
section
/-! SUPPORT. Sub-steps: how they run one after another, what a bind that answered must have done, and where a sub-step
leaves the state. -/

namespace Sys2Proof.Machine

variable {α β : Type}

/-- The state a sub-step leaves, whether it ended ok or stopped. -/
def endState : EStateM.Result Stop State α → State
  | .ok _ t => t
  | .error _ t => t

@[simp] theorem endState_ok (a : α) (t : State) : endState (.ok a t) = t := rfl
@[simp] theorem endState_error (e : Stop) (t : State) : endState (α := α) (.error e t) = t := rfl

@[simp] theorem pure_run (a : α) (s : State) : (pure a : D α) s = .ok a s := rfl
@[simp] theorem getS_run (s : State) : getS s = .ok s s := rfl
@[simp] theorem getPos_run (s : State) : getPos s = .ok s.pos s := rfl
@[simp] theorem modS_run (f : State → State) (s : State) : modS f s = .ok () (f s) := rfl
@[simp] theorem setSeq_run (q : SeqState) (s : State) : setSeq q s = .ok () (s.setSeq q) := rfl
@[simp] theorem modSession_run (f : Session → Session) (s : State) :
    modSession f s = .ok () (s.setSession (f s.session)) := rfl
@[simp] theorem emitRec_run (id : FieldId) (off len : Nat) (v : Option Nat) (s : State) :
    emitRec id off len v s = .ok () (s.emit { id := id, off := off, len := len, val := v }) := rfl
@[simp] theorem warnRec_run (k : WarnKind) (off info : Nat) (s : State) :
    warnRec k off info s = .ok () (s.addWarn { kind := k, off := off, info := info }) := rfl
@[simp] theorem draw_run (free : Nat → α) (s : State) : draw free s = .ok (free s.draws) (s.setDraws (s.draws + 1)) := rfl
@[simp] theorem raise_run (e : ErrKind) (s : State) : raise (α := α) e s = .error (.raised e s.pos) s := rfl
@[simp] theorem refuse_run (r : Refusal) (s : State) : refuse (α := α) r s = .error (.refused r) s := rfl

/-- A bind runs its first part, and the second where the first answered. -/
theorem bind_run (x : D α) (f : α → D β) (s : State) :
    (x >>= f) s = match x s with | .ok a t => f a t | .error e t => .error e t := by
  change EStateM.bind x f s = _
  unfold EStateM.bind
  cases x s <;> rfl

/-- A bind whose first part is known to answer. -/
theorem bind_of_ok {x : D α} {f : α → D β} {s t : State} {a : α} (h : x s = .ok a t) : (x >>= f) s = f a t := by
  rw [bind_run, h]

/-- A bind whose first part is known to stop. -/
theorem bind_of_error {x : D α} {f : α → D β} {s t : State} {e : Stop} (h : x s = .error e t) :
    (x >>= f) s = .error e t := by
  rw [bind_run, h]

@[simp] theorem getS_bind (f : State → D β) (s : State) : (getS >>= f) s = f s s := rfl
@[simp] theorem getPos_bind (f : Nat → D β) (s : State) : (getPos >>= f) s = f s.pos s := rfl
@[simp] theorem modS_bind (g : State → State) (f : Unit → D β) (s : State) : (modS g >>= f) s = f () (g s) := rfl
@[simp] theorem pure_bind_run (a : α) (f : α → D β) (s : State) : ((pure a : D α) >>= f) s = f a s := rfl
@[simp] theorem setSeq_bind (q : SeqState) (f : Unit → D β) (s : State) : (setSeq q >>= f) s = f () (s.setSeq q) := rfl
@[simp] theorem modSession_bind (g : Session → Session) (f : Unit → D β) (s : State) :
    (modSession g >>= f) s = f () (s.setSession (g s.session)) := rfl
@[simp] theorem emitRec_bind (id : FieldId) (off len : Nat) (v : Option Nat) (f : Unit → D β) (s : State) :
    (emitRec id off len v >>= f) s = f () (s.emit { id := id, off := off, len := len, val := v }) := rfl
@[simp] theorem warnRec_bind (k : WarnKind) (off info : Nat) (f : Unit → D β) (s : State) :
    (warnRec k off info >>= f) s = f () (s.addWarn { kind := k, off := off, info := info }) := rfl

/-- What a bind that answered did: both parts answered. -/
theorem bind_eq_ok {x : D α} {f : α → D β} {s u : State} {b : β} (h : (x >>= f) s = .ok b u) :
    ∃ a t, x s = .ok a t ∧ f a t = .ok b u := by
  rw [bind_run] at h
  cases hx : x s with
  | ok a t => exact ⟨a, t, rfl, by simpa [hx] using h⟩
  | error e t => simp [hx] at h

/-- What a bind that stopped did: its first part stopped, or answered and the second stopped. -/
theorem bind_eq_error {x : D α} {f : α → D β} {s u : State} {e : Stop} (h : (x >>= f) s = .error e u) :
    x s = .error e u ∨ ∃ a t, x s = .ok a t ∧ f a t = .error e u := by
  rw [bind_run] at h
  cases hx : x s with
  | ok a t => exact .inr ⟨a, t, rfl, by simpa [hx] using h⟩
  | error e' t => exact .inl (by simpa [hx] using h)

@[simp] theorem loopD_zero (f : α → D α) (a : α) : loopD f 0 a = pure a := rfl
theorem loopD_succ (f : α → D α) (n : Nat) (a : α) : loopD f (n + 1) a = f a >>= loopD f n := rfl
@[simp] theorem whenD_true (x : D Unit) : whenD true x = x := rfl
@[simp] theorem whenD_false (x : D Unit) : whenD false x = pure () := rfl

/-! ### From sub-steps to outcomes -/

/-- A unit operation answers a next state exactly where its sub-step answered or raised an error. -/
theorem unitOp_eq_next {x : D Response} {s u : State} (h : unitOp x s = .next u) :
    (∃ r t, x s = .ok r t ∧ u = t.setResult r) ∨
      ∃ e p t, x s = .error (.raised e p) t ∧ u = t.setResult (.error e p) := by
  unfold unitOp at h
  split at h
  · exact .inl ⟨_, _, ‹_›, by simpa using h.symm⟩
  · exact .inr ⟨_, _, _, ‹_›, by simpa using h.symm⟩
  · simp at h
  · simp at h

/-- An IE or MSG operation answers a next state exactly where its sub-step answered, and is then finished, or raised an
error, and is then stopped. -/
theorem callOp_eq_next {x : D Unit} {s u : State} (h : callOp x s = .next u) :
    (∃ t, x s = .ok () t ∧ u = t.finish) ∨ ∃ e p t, x s = .error (.raised e p) t ∧ u = t.stop e p := by
  unfold callOp at h
  split at h
  · exact .inl ⟨_, ‹_›, by simpa using h.symm⟩
  · exact .inr ⟨_, _, _, ‹_›, by simpa using h.symm⟩
  · simp at h
  · simp at h

theorem unitOp_of_ok {x : D Response} {s t : State} {r : Response} (h : x s = .ok r t) :
    unitOp x s = .next (t.setResult r) := by
  simp [unitOp, h]

theorem unitOp_of_raised {x : D Response} {s t : State} {e : ErrKind} {p : Nat} (h : x s = .error (.raised e p) t) :
    unitOp x s = .next (t.setResult (.error e p)) := by
  simp [unitOp, h]

theorem unitOp_of_refused {x : D Response} {s t : State} {r : Refusal} (h : x s = .error (.refused r) t) :
    unitOp x s = .refused r := by
  simp [unitOp, h]

theorem callOp_of_ok {x : D Unit} {s t : State} (h : x s = .ok () t) : callOp x s = .next t.finish := by
  simp [callOp, h]

theorem callOp_of_raised {x : D Unit} {s t : State} {e : ErrKind} {p : Nat} (h : x s = .error (.raised e p) t) :
    callOp x s = .next (t.stop e p) := by
  simp [callOp, h]

theorem callOp_of_refused {x : D Unit} {s t : State} {r : Refusal} (h : x s = .error (.refused r) t) :
    callOp x s = .refused r := by
  simp [callOp, h]

end Sys2Proof.Machine
end

