-- ==== Sys2Proof/Laws/Memory.lean ====
section
/-! SUPPORT. The Byte Buffer: its canonical form, what a byte and a field of it read as. -/

namespace Sys2Proof.Machine

/-- A memory canonical from an address on is so from any lower one. -/
theorem memWfFrom_mono {lo lo' : Nat} {m : Memory} (h : memWfFrom lo m = true) (hl : lo' ≤ lo) :
    memWfFrom lo' m = true := by
  cases m with
  | nil => rfl
  | cons c m =>
    simp only [memWfFrom, Bool.and_eq_true, decide_eq_true_eq] at h ⊢
    exact ⟨⟨by omega, h.1.2⟩, h.2⟩

/-- A buffer the host places is in canonical form. -/
theorem ofBytes_wf (base : Nat) (bs : List Byte) : memWfFrom base (ofBytes base bs) = true := by
  induction bs generalizing base with
  | nil => rfl
  | cons b bs ih =>
    simp only [ofBytes]
    split
    · exact memWfFrom_mono (ih (base + 1)) (by omega)
    · simpa [memWfFrom, ih] using ‹_›

/-- Below the first address a canonical memory reads 0. -/
theorem readByte_below {lo a : Nat} {m : Memory} (h : memWfFrom lo m = true) (ha : a < lo) : readByte m a = 0 := by
  induction m generalizing lo with
  | nil => rfl
  | cons c m ih =>
    simp only [memWfFrom, Bool.and_eq_true, decide_eq_true_eq] at h
    rw [readByte, if_neg (by omega), ih h.2 (by omega)]

/-- A byte of a buffer the host places. -/
theorem readByte_ofBytes (base : Nat) (bs : List Byte) (i : Nat) :
    readByte (ofBytes base bs) (base + i) = bs.getD i 0 := by
  induction bs generalizing base i with
  | nil => rfl
  | cons b bs ih =>
    cases i with
    | zero =>
      simp only [ofBytes, Nat.add_zero, List.getD_cons_zero]
      split
      · rw [readByte_below (ofBytes_wf _ _) (by omega)]
        exact Eq.symm ‹_›
      · simp [readByte]
    | succ i =>
      have := ih (base + 1) i
      simp only [ofBytes, List.getD_cons_succ]
      split
      · rw [← this]; congr 1; omega
      · rw [readByte, if_neg (by omega), ← this]; congr 1; omega

theorem bufBit_lt (m : Memory) (p : Nat) : bufBit m p < 2 := Nat.mod_lt _ (by omega)

/-- A field of `w` bits is below `2^w`. -/
theorem memRead_lt (m : Memory) (p w : Nat) : memRead m p w < 2 ^ w := by
  induction w with
  | zero => simp [memRead]
  | succ w ih =>
    have := bufBit_lt m (p + w)
    simp only [memRead]
    omega

@[simp] theorem memRead_zero (m : Memory) (p : Nat) : memRead m p 0 = 0 := rfl

/-- A field cut in two: the first part on the wire is the more significant. -/
theorem memRead_add (m : Memory) (p a b : Nat) :
    memRead m p (a + b) = memRead m p a * 2 ^ b + memRead m (p + a) b := by
  induction b with
  | zero => simp [memRead]
  | succ b ih =>
    rw [← Nat.add_assoc, memRead, memRead, ih, Nat.pow_succ, Nat.add_assoc p a b]
    ring

/-- One bit. -/
@[simp] theorem memRead_one (m : Memory) (p : Nat) : memRead m p 1 = bufBit m p := by simp [memRead]

end Sys2Proof.Machine
end

