-- ==== Sys2Proof/Laws/Cursor.lean ====
section
/-! SUPPORT. Each operation of the Bit Cursor, once: where it answers and what it then did, and where it stops. -/

namespace Sys2Proof.Machine

variable {s t : State}

/-! ### Moving and reading -/

theorem moveBits_ok {w : Nat} (h : s.pos + w ≤ s.effBound) : moveBits w s = .ok () (s.setPos (s.pos + w)) := by
  simp [moveBits, Nat.not_lt.mpr h]

theorem moveBits_truncated {w : Nat} (h : s.effBound < s.pos + w) :
    moveBits w s = .error (.raised .truncated s.pos) s := by
  simp [moveBits, h]

/-- All that moving can do. -/
theorem moveBits_cases (w : Nat) (s : State) :
    (s.pos + w ≤ s.effBound ∧ moveBits w s = .ok () (s.setPos (s.pos + w))) ∨
      (s.effBound < s.pos + w ∧ moveBits w s = .error (.raised .truncated s.pos) s) := by
  rcases Nat.lt_or_ge s.effBound (s.pos + w) with h | h
  · exact .inr ⟨h, moveBits_truncated h⟩
  · exact .inl ⟨h, moveBits_ok h⟩

theorem readBits_ok {w : Nat} (hw : w ≤ s.cfg.doc.readMaxBits) (h : s.pos + w ≤ s.effBound) :
    readBits w s = .ok (memRead s.mem s.pos w) (s.setPos (s.pos + w)) := by
  simp [readBits, Nat.not_lt.mpr hw, Nat.not_lt.mpr h]

theorem readBits_truncated {w : Nat} (hw : w ≤ s.cfg.doc.readMaxBits) (h : s.effBound < s.pos + w) :
    readBits w s = .error (.raised .truncated s.pos) s := by
  simp [readBits, Nat.not_lt.mpr hw, h]

theorem readBits_invalid {w : Nat} (hw : s.cfg.doc.readMaxBits < w) :
    readBits w s = .error (.refused .invalidWidth) s := by
  simp [readBits, hw]

/-- All that a READ can do. -/
theorem readBits_cases (w : Nat) (s : State) :
    (s.cfg.doc.readMaxBits < w ∧ readBits w s = .error (.refused .invalidWidth) s) ∨
      (w ≤ s.cfg.doc.readMaxBits ∧ s.pos + w ≤ s.effBound ∧
        readBits w s = .ok (memRead s.mem s.pos w) (s.setPos (s.pos + w))) ∨
      (w ≤ s.cfg.doc.readMaxBits ∧ s.effBound < s.pos + w ∧ readBits w s = .error (.raised .truncated s.pos) s) := by
  rcases Nat.lt_or_ge s.cfg.doc.readMaxBits w with hw | hw
  · exact .inl ⟨hw, readBits_invalid hw⟩
  · rcases Nat.lt_or_ge s.effBound (s.pos + w) with h | h
    · exact .inr (.inr ⟨hw, h, readBits_truncated hw h⟩)
    · exact .inr (.inl ⟨hw, h, readBits_ok hw h⟩)

/-- How a READ stops: the bits are not there, or are more than one READ may take. -/
def IsReadStop (s : State) (e : Stop) : Prop := e = .raised .truncated s.pos ∨ e = .refused .invalidWidth

/-- A READ answers, or stops where it stands. -/
theorem readBits_ok_or_stop (w : Nat) (s : State) :
    (s.pos + w ≤ s.effBound ∧ readBits w s = .ok (memRead s.mem s.pos w) (s.setPos (s.pos + w))) ∨
      ∃ e, IsReadStop s e ∧ readBits w s = .error e s := by
  rcases readBits_cases w s with ⟨_, e⟩ | ⟨_, hb, e⟩ | ⟨_, _, e⟩
  · exact .inr ⟨_, .inr rfl, e⟩
  · exact .inl ⟨hb, e⟩
  · exact .inr ⟨_, .inl rfl, e⟩

/-- What a READ that answered did. -/
theorem readBits_eq_ok {w v : Nat} (h : readBits w s = .ok v t) :
    w ≤ s.cfg.doc.readMaxBits ∧ s.pos + w ≤ s.effBound ∧ v = memRead s.mem s.pos w ∧ t = s.setPos (s.pos + w) := by
  rcases readBits_cases w s with ⟨_, e⟩ | ⟨hw, hb, e⟩ | ⟨_, _, e⟩ <;> rw [e] at h <;> cases h
  exact ⟨hw, hb, rfl, rfl⟩

/-- What a move that answered did. -/
theorem moveBits_eq_ok {w : Nat} {u : Unit} (h : moveBits w s = .ok u t) :
    s.pos + w ≤ s.effBound ∧ t = s.setPos (s.pos + w) := by
  rcases moveBits_cases w s with ⟨hb, e⟩ | ⟨_, e⟩ <;> rw [e] at h <;> cases h
  exact ⟨hb, rfl⟩

/-- A READ leaves the cursor where it was, or `w` bits on within the bound. -/
theorem readBits_end (w : Nat) (s : State) :
    endState (readBits w s) = s ∨ (s.pos + w ≤ s.effBound ∧ endState (readBits w s) = s.setPos (s.pos + w)) := by
  rcases readBits_cases w s with ⟨_, e⟩ | ⟨_, hb, e⟩ | ⟨_, _, e⟩ <;> simp [e]
  exact .inr hb

theorem moveBits_end (w : Nat) (s : State) :
    endState (moveBits w s) = s ∨ (s.pos + w ≤ s.effBound ∧ endState (moveBits w s) = s.setPos (s.pos + w)) := by
  rcases moveBits_cases w s with ⟨hb, e⟩ | ⟨_, e⟩ <;> simp [e]
  exact .inr hb

/-- Padding ends on a multiple. -/
theorem padAmount_aligns (n p : Nat) (hn : 0 < n) : (p + padAmount n p) % n = 0 := by
  have h1 := Nat.mod_lt p hn
  have h2 := Nat.div_add_mod p n
  unfold padAmount
  rcases Nat.eq_zero_or_pos (p % n) with h | h
  · simp [h]
  · rw [Nat.mod_eq_of_lt (by omega : n - p % n < n)]
    have : p + (n - p % n) = n * (p / n + 1) := by rw [Nat.mul_add]; omega
    rw [this]; simp

theorem padAmount_lt (n p : Nat) (hn : 0 < n) : padAmount n p < n := Nat.mod_lt _ hn

/-! ### Limits -/

/-- A PUSHLIM answers wherever the new limit lies within the parent's and the stack has room. -/
theorem pushLimit_ok {n : Nat} (hd : s.limstk.length < s.cfg.doc.limDepth)
    (ht : ∀ b ∈ s.limstk.head?, s.pos + n ≤ b) : pushLimit n s = .ok () (s.setLimstk ((s.pos + n) :: s.limstk)) := by
  unfold pushLimit
  rw [if_neg (Nat.not_le.mpr hd)]
  cases h : s.limstk with
  | nil => rfl
  | cons b l => exact if_neg (Nat.not_lt.mpr (ht b (by simp [h])))

theorem pushLimit_inconsistent {n t : Nat} {l : List Nat} (h : s.limstk = t :: l)
    (hd : l.length + 1 < s.cfg.doc.limDepth) (ht : t < s.pos + n) :
    pushLimit n s = .error (.raised .inconsistentLength s.pos) s := by
  unfold pushLimit
  rw [h, if_neg (by rw [List.length_cons]; omega)]
  exact if_pos ht

theorem pushLimit_overflow {n : Nat} (h : s.cfg.doc.limDepth ≤ s.limstk.length) :
    pushLimit n s = .error (.refused .limitOverflow) s := if_pos h

/-- All that a PUSHLIM can do. -/
theorem pushLimit_cases (n : Nat) (s : State) :
    (pushLimit n s = .ok () (s.setLimstk ((s.pos + n) :: s.limstk)) ∧ s.limstk.length < s.cfg.doc.limDepth ∧
        ∀ b ∈ s.limstk.head?, s.pos + n ≤ b) ∨
      pushLimit n s = .error (.refused .limitOverflow) s ∨
      pushLimit n s = .error (.raised .inconsistentLength s.pos) s := by
  rcases Nat.lt_or_ge s.limstk.length s.cfg.doc.limDepth with hd | hd
  · by_cases ht : ∀ b ∈ s.limstk.head?, s.pos + n ≤ b
    · exact .inl ⟨pushLimit_ok hd ht, hd, ht⟩
    · cases h : s.limstk with
      | nil => simp [h] at ht
      | cons b l =>
        rw [h] at hd ht
        exact .inr (.inr (pushLimit_inconsistent h (by simpa using hd) (by simpa using ht)))
  · exact .inr (.inl (pushLimit_overflow hd))

theorem popLimit_ok {b : Nat} {l : List Nat} (h : s.limstk = b :: l) : popLimit s = .ok () (s.setLimstk l) := by
  simp [popLimit, h]

theorem popLimit_underflow (h : s.limstk = []) : popLimit s = .error (.refused .limitUnderflow) s := by
  simp [popLimit, h]

/-- All that a POPLIM can do. -/
theorem popLimit_cases (s : State) :
    (∃ b l, s.limstk = b :: l ∧ popLimit s = .ok () (s.setLimstk l)) ∨
      (s.limstk = [] ∧ popLimit s = .error (.refused .limitUnderflow) s) := by
  cases h : s.limstk with
  | nil => exact .inr ⟨rfl, popLimit_underflow h⟩
  | cons b l => exact .inl ⟨b, l, rfl, popLimit_ok h⟩

/-! ### INIT -/

theorem initCursor_ok {p : Nat} (hl : s.tooLong = false) (hp : p ≤ 8 * s.inp.len) :
    initCursor p s = .ok () (s.initCall p) := by
  simp [initCursor, hl, Nat.not_lt.mpr hp]

theorem initCursor_bad {p : Nat} (h : s.tooLong = true ∨ 8 * s.inp.len < p) :
    initCursor p s = .error (.refused .badInit) s := by
  simp [initCursor, h]

/-- All that INIT can do. -/
theorem initCursor_cases (p : Nat) (s : State) :
    (p ≤ 8 * s.inp.len ∧ initCursor p s = .ok () (s.initCall p)) ∨
      initCursor p s = .error (.refused .badInit) s := by
  unfold initCursor
  split
  · exact .inr rfl
  · exact .inl ⟨by omega, rfl⟩

/-! ### Fields on the wire -/

theorem readField_ok {id : FieldId} {w : Nat} (hw : w ≤ s.cfg.doc.readMaxBits) (h : s.pos + w ≤ s.effBound) :
    readField id w s =
      .ok (memRead s.mem s.pos w)
        ((s.setPos (s.pos + w)).emit { id := id, off := s.pos, len := w, val := some (memRead s.mem s.pos w) }) := by
  simp only [readField, getPos_bind]
  rw [bind_of_ok (readBits_ok hw h)]
  rfl

/-- All that reading and emitting a field can do. -/
theorem readField_cases (id : FieldId) (w : Nat) (s : State) :
    (s.pos + w ≤ s.effBound ∧
        readField id w s =
          .ok (memRead s.mem s.pos w)
            ((s.setPos (s.pos + w)).emit
              { id := id, off := s.pos, len := w, val := some (memRead s.mem s.pos w) })) ∨
      ∃ e, IsReadStop s e ∧ readField id w s = .error e s := by
  rcases readBits_ok_or_stop w s with ⟨hb, e⟩ | ⟨e', he, e⟩
  · exact .inl ⟨hb, by simp only [readField, getPos_bind]; rw [bind_of_ok e]; rfl⟩
  · exact .inr ⟨e', he, by simp [readField, bind_of_error e]⟩

theorem skipField_ok {id : FieldId} {n : Nat} (h : s.pos + n ≤ s.effBound) :
    skipField id n s =
      .ok () ((s.setPos (s.pos + n)).emit { id := id, off := s.pos, len := n, val := none }) := by
  simp [skipField, skipBits, bind_of_ok (moveBits_ok h)]

/-- All that passing over and emitting a stretch of bits can do. -/
theorem skipField_cases (id : FieldId) (n : Nat) (s : State) :
    (s.pos + n ≤ s.effBound ∧
        skipField id n s =
          .ok () ((s.setPos (s.pos + n)).emit { id := id, off := s.pos, len := n, val := none })) ∨
      (s.effBound < s.pos + n ∧ skipField id n s = .error (.raised .truncated s.pos) s) := by
  rcases moveBits_cases n s with ⟨hb, _⟩ | ⟨hb, e⟩
  · exact .inl ⟨hb, skipField_ok hb⟩
  · exact .inr ⟨hb, by simp [skipField, skipBits, bind_of_error e]⟩

theorem readTwo_ok {a b : Nat} (ha : a ≤ s.cfg.doc.readMaxBits) (hb : b ≤ s.cfg.doc.readMaxBits) (h : s.pos + (a + b) ≤ s.effBound) :
    readTwo a b s = .ok (memRead s.mem s.pos (a + b)) (s.setPos (s.pos + (a + b))) := by
  have h1 := readBits_ok (s := s) ha (by omega)
  have h2 := readBits_ok (s := s.setPos (s.pos + a)) hb (by simp; omega)
  simp only [readTwo]
  rw [bind_of_ok h1, bind_of_ok h2]
  simp [memRead_add, State.setPos, Nat.add_assoc]

/-- All that two READs can do. -/
theorem readTwo_cases (a b : Nat) (s : State) :
    (s.pos + (a + b) ≤ s.effBound ∧
        readTwo a b s = .ok (memRead s.mem s.pos (a + b)) (s.setPos (s.pos + (a + b)))) ∨
      (∃ e, readTwo a b s = .error e s) ∨
      ∃ e, s.pos + a ≤ s.effBound ∧ readTwo a b s = .error e (s.setPos (s.pos + a)) := by
  rcases readBits_cases a s with ⟨_, e⟩ | ⟨ha, hb, e⟩ | ⟨_, _, e⟩
  · exact .inr (.inl ⟨_, bind_of_error e⟩)
  · rcases readBits_cases b (s.setPos (s.pos + a)) with ⟨_, f⟩ | ⟨hb', hc, f⟩ | ⟨_, _, f⟩
    · exact .inr (.inr ⟨_, hb, (bind_of_ok e).trans (bind_of_error f)⟩)
    · simp only [State.setPos_pos, State.setPos_effBound] at hc
      exact .inl ⟨by omega, readTwo_ok ha hb' (by omega)⟩
    · exact .inr (.inr ⟨_, hb, (bind_of_ok e).trans (bind_of_error f)⟩)
  · exact .inr (.inl ⟨_, bind_of_error e⟩)

/-! ### Connection identifiers -/

theorem rcidNormal16_ok (hr : 16 ≤ s.cfg.doc.readMaxBits) (h : s.pos + 16 ≤ s.effBound) :
    rcidNormal16 s = .ok (memRead s.mem s.pos 16, 16) (s.setPos (s.pos + 16)) := by
  simp [rcidNormal16, bind_of_ok (readBits_ok hr h)]

theorem rcidAfterPrefix_ok {n : Nat} (hn : n ≤ s.cfg.doc.readMaxBits) (h : s.pos + n ≤ s.effBound) :
    rcidAfterPrefix n s = .ok (memRead s.mem s.pos n, n + 1) (s.setPos (s.pos + n)) := by
  simp [rcidAfterPrefix, bind_of_ok (readBits_ok hn h)]

/-- The form with a prefix bit, whole. -/
theorem rcidPrefixed_ok {n : Nat} (hr : 1 ≤ s.cfg.doc.readMaxBits) (hn : n ≤ s.cfg.doc.readMaxBits)
    (h : s.pos + (n + 1) ≤ s.effBound) :
    rcidPrefixed n s = .ok (memRead s.mem (s.pos + 1) n, n + 1) (s.setPos (s.pos + (n + 1))) := by
  have h1 := readBits_ok (s := s) hr (by omega)
  have h2 := rcidAfterPrefix_ok (s := s.setPos (s.pos + 1)) hn (by simp; omega)
  simp only [rcidPrefixed]
  rw [bind_of_ok h1, h2]
  simp [State.setPos, Nat.add_assoc, Nat.add_comm 1]

theorem rcidBits_le (t : CidType) (pre : Nat) : rcidBits t pre ≤ 16 := by
  unfold rcidBits
  split
  · omega
  · cases t <;> simp

theorem rcidBits_ge (t : CidType) (pre : Nat) : 3 ≤ rcidBits t pre := by
  unfold rcidBits
  split
  · omega
  · cases t <;> simp

theorem rcidBits_reduced {t : CidType} (h : t ≠ .normal16) (pre : Nat) : rcidBits t pre ≤ 11 := by
  unfold rcidBits
  split
  · omega
  · cases t <;> simp_all

theorem State.rcidWidth_le (s : State) : s.rcidWidth ≤ 16 := by
  unfold State.rcidWidth
  split
  · omega
  · have := rcidBits_reduced ‹_› (bufBit s.mem s.pos); omega

theorem State.rcidWidth_ge (s : State) : 4 ≤ s.rcidWidth := by
  unfold State.rcidWidth
  split
  · omega
  · have := rcidBits_ge s.session.cidType (bufBit s.mem s.pos); omega

/-- Where the bits are there, RCID answers the identifier and its width. -/
theorem rcidOp_ok (hr : 16 ≤ s.cfg.doc.readMaxBits) (h : s.pos + s.rcidWidth ≤ s.effBound) :
    rcidOp s = .ok (s.rcidValue, s.rcidWidth) (s.setPos (s.pos + s.rcidWidth)) := by
  simp only [rcidOp, getS_bind]
  unfold State.rcidWidth at h ⊢
  unfold State.rcidValue
  split
  · rename_i hc
    rw [if_pos hc] at h
    rw [rcidNormal16_ok hr h]
  · rename_i hc
    rw [if_neg hc] at h
    rw [bind_of_ok (readBits_ok (by omega) (by omega)), memRead_one]
    have hb := rcidBits_le s.session.cidType (bufBit s.mem s.pos)
    rw [rcidAfterPrefix_ok (by simp; omega) (by simp; omega)]
    simp [State.setPos, Nat.add_assoc, Nat.add_comm 1]

/-- All that RCID can do: the whole identifier, or a stop at POS or after the prefix. -/
theorem rcidOp_cases (s : State) :
    (s.pos + s.rcidWidth ≤ s.effBound ∧
        rcidOp s = .ok (s.rcidValue, s.rcidWidth) (s.setPos (s.pos + s.rcidWidth))) ∨
      (∃ e, IsReadStop s e ∧ rcidOp s = .error e s) ∨
      (s.pos + 1 ≤ s.effBound ∧ ∃ e, IsReadStop (s.setPos (s.pos + 1)) e ∧
        rcidOp s = .error e (s.setPos (s.pos + 1))) := by
  simp only [rcidOp, getS_bind]
  unfold State.rcidWidth State.rcidValue
  by_cases hc : s.session.cidType = .normal16
  · simp only [if_pos hc]
    rcases readBits_ok_or_stop 16 s with ⟨hb, e⟩ | ⟨e', he, e⟩
    · exact .inl ⟨hb, by simp [rcidNormal16, bind_of_ok e]⟩
    · exact .inr (.inl ⟨e', he, by simp [rcidNormal16, bind_of_error e]⟩)
  · simp only [if_neg hc]
    rcases readBits_ok_or_stop 1 s with ⟨h1, e⟩ | ⟨e', he, e⟩
    · rw [bind_of_ok e, memRead_one]
      rcases readBits_ok_or_stop (rcidBits s.session.cidType (bufBit s.mem s.pos)) (s.setPos (s.pos + 1)) with
        ⟨hb, f⟩ | ⟨e', he, f⟩
      · simp only [State.setPos_pos, State.setPos_effBound] at hb
        refine .inl ⟨by omega, ?_⟩
        simp only [rcidAfterPrefix]
        rw [bind_of_ok f]
        simp [State.setPos, Nat.add_assoc, Nat.add_comm 1]
      · exact .inr (.inr ⟨h1, e', he, by simp [rcidAfterPrefix, bind_of_error f]⟩)
    · exact .inr (.inl ⟨e', he, by rw [bind_of_error e]⟩)

/-- The record of an identifier. -/
theorem rcidField_ok (hr : 16 ≤ s.cfg.doc.readMaxBits) (h : s.pos + s.rcidWidth ≤ s.effBound) :
    rcidField s =
      .ok (s.rcidValue, s.rcidWidth)
        ((s.setPos (s.pos + s.rcidWidth)).emit
          { id := .cid, off := s.pos, len := s.rcidWidth, val := some s.rcidValue }) := by
  simp only [rcidField, getPos_bind]
  rw [bind_of_ok (rcidOp_ok hr h)]
  rfl

/-- All that reading and emitting an identifier can do. -/
theorem rcidField_cases (s : State) :
    (s.pos + s.rcidWidth ≤ s.effBound ∧
        rcidField s =
          .ok (s.rcidValue, s.rcidWidth)
            ((s.setPos (s.pos + s.rcidWidth)).emit
              { id := .cid, off := s.pos, len := s.rcidWidth, val := some s.rcidValue })) ∨
      (∃ e, IsReadStop s e ∧ rcidField s = .error e s) ∨
      (s.pos + 1 ≤ s.effBound ∧ ∃ e, IsReadStop (s.setPos (s.pos + 1)) e ∧
        rcidField s = .error e (s.setPos (s.pos + 1))) := by
  rcases rcidOp_cases s with ⟨h, e⟩ | ⟨e', he, e⟩ | ⟨h, e', he, e⟩
  · exact .inl ⟨h, by simp only [rcidField, getPos_bind]; rw [bind_of_ok e]; rfl⟩
  · exact .inr (.inl ⟨e', he, by simp [rcidField, bind_of_error e]⟩)
  · exact .inr (.inr ⟨h, e', he, by simp [rcidField, bind_of_error e]⟩)

/-! ### Inputs and parameters -/

/-- All that sampling `alt_format` can do. -/
theorem sampleAlt_cases (s : State) :
    (∃ b l, s.altSamples = b :: l ∧ sampleAlt s = .ok b (s.setAlt l)) ∨
      (s.altSamples = [] ∧ sampleAlt s = .ok (Config.freeAltFormat s.draws) (s.setDraws (s.draws + 1))) := by
  unfold sampleAlt
  cases s.altSamples with
  | nil => exact .inr ⟨rfl, rfl⟩
  | cons b l => exact .inl ⟨b, l, rfl, rfl⟩

theorem sampleAlt_fixed {b : Bool} {l : List Bool} (h : s.altSamples = b :: l) : sampleAlt s = .ok b (s.setAlt l) := by
  simp [sampleAlt, h]

/-- All that asking for an OPEN parameter can do. -/
theorem needParam_cases {α : Type} (v : Option α) (p : OpenParam) (s : State) :
    (∃ a, v = some a ∧ needParam v p s = .ok a s) ∨
      (v = none ∧ needParam v p s = .error (.refused (.noParameter p)) s) := by
  cases v with
  | none => exact .inr ⟨rfl, rfl⟩
  | some a => exact .inl ⟨a, rfl, rfl⟩

@[simp] theorem needParam_some {α : Type} (a : α) (p : OpenParam) (s : State) : needParam (some a) p s = .ok a s := rfl

@[simp] theorem kindOf_l1_dl (sub : Nat) (s : State) :
    kindOf .one .dl sub s = .ok ((s.cfg.maps.l1Dl.lookup sub).map .l1) s := rfl
@[simp] theorem kindOf_l2_dl (sub : Nat) (s : State) :
    kindOf .two .dl sub s = .ok ((s.cfg.maps.l2Dl.lookup sub).map .l2) s := rfl

/-- Looking a kind up reads the configuration only. -/
theorem kindOf_end (lvl : Level) (d : Dir) (sub : Nat) (s : State) : endState (kindOf lvl d sub s) = s := by
  cases lvl <;> cases d <;> simp only [kindOf, getS_bind] <;> try rfl
  all_goals
    rw [bind_run]
    rcases needParam_cases (α := _) _ _ s with ⟨a, ha, e⟩ | ⟨ha, e⟩ <;> rw [e] <;> rfl

@[simp] theorem layoutOf_run (d : Dir) (mode : Nat) (s : State) :
    layoutOf d mode s = .ok ((match d with | .dl => s.cfg.maps.sbDl | .ul => s.cfg.maps.sbUl).lookup mode) s := rfl

/-- The width of a length field depends on the configuration only. -/
theorem lenWidth_end (lvl : Level) (d : Dir) (s : State) : endState (lenWidth lvl d s) = s := by
  cases lvl <;> cases d <;> simp only [lenWidth, getS_bind] <;> try rfl
  rcases needParam_cases s.cfg.l1LenBitsUl .l1LenBitsUl s with ⟨a, _, e⟩ | ⟨_, e⟩ <;> rw [e] <;> rfl

end Sys2Proof.Machine
end

