-- ==== Sys2Proof/Laws/Checksum.lean ====
section
/-! SUPPORT. The checksum operations, once: where they answer and what they then did, and that their tables are linear. -/

namespace Sys2Proof.Machine

variable {s t : State}

theorem checksumSpan_ok (h : s.pos / 8 ≤ s.msgStartByte ∨ s.pos / 8 ≤ s.len) :
    checksumSpan s = .ok s.spanBytes s := by
  unfold checksumSpan
  rw [if_neg (by omega)]

/-- All that taking the span can do. -/
theorem checksumSpan_cases (s : State) :
    checksumSpan s = .ok s.spanBytes s ∨
      (s.len < s.pos / 8 ∧ checksumSpan s = .error (.faulted .outsideBuffer) s) := by
  unfold checksumSpan
  split
  · exact .inr ⟨by omega, rfl⟩
  · exact .inl rfl

theorem calc16_ok (h : s.pos / 8 ≤ s.msgStartByte ∨ s.pos / 8 ≤ s.len) :
    calc16 s =
      .ok (crc16 s.cfg.doc.crc16Poly s.crc16Reflect s.spanBytes)
        (s.setAcc16 (crc16Acc s.cfg.doc.crc16Poly s.crc16Reflect s.spanBytes)) := by
  rw [calc16, bind_of_ok (checksumSpan_ok h)]
  rfl

theorem calc32_ok (h : s.pos / 8 ≤ s.msgStartByte ∨ s.pos / 8 ≤ s.len) :
    calc32 s =
      .ok (crc32 s.cfg.doc.crc32Poly s.cfg.crc32Reflect s.spanBytes)
        (s.setAcc32 (crc32Acc s.cfg.doc.crc32Poly s.cfg.crc32Reflect s.spanBytes)) := by
  rw [calc32, bind_of_ok (checksumSpan_ok h)]
  rfl

/-- All that CRC16 over the span can do. -/
theorem calc16_cases (s : State) :
    calc16 s =
      .ok (crc16 s.cfg.doc.crc16Poly s.crc16Reflect s.spanBytes)
        (s.setAcc16 (crc16Acc s.cfg.doc.crc16Poly s.crc16Reflect s.spanBytes)) ∨
      (s.len < s.pos / 8 ∧ calc16 s = .error (.faulted .outsideBuffer) s) := by
  rcases checksumSpan_cases s with e | ⟨h, e⟩
  · exact .inl (by rw [calc16, bind_of_ok e]; rfl)
  · exact .inr ⟨h, by rw [calc16, bind_of_error e]⟩

/-- All that CRC32 over the span can do. -/
theorem calc32_cases (s : State) :
    calc32 s =
      .ok (crc32 s.cfg.doc.crc32Poly s.cfg.crc32Reflect s.spanBytes)
        (s.setAcc32 (crc32Acc s.cfg.doc.crc32Poly s.cfg.crc32Reflect s.spanBytes)) ∨
      (s.len < s.pos / 8 ∧ calc32 s = .error (.faulted .outsideBuffer) s) := by
  rcases checksumSpan_cases s with e | ⟨h, e⟩
  · exact .inl (by rw [calc32, bind_of_ok e]; rfl)
  · exact .inr ⟨h, by rw [calc32, bind_of_error e]⟩

/-- A warning of a checksum that differs from its trailer, if it does. -/
def State.warnMismatch (s : State) (differs : Bool) (off info : Nat) : State :=
  if differs then s.addWarn { kind := .checksumMismatch, off := off, info := info } else s

theorem whenD_warnRec (b : Bool) (off info : Nat) (s : State) :
    whenD b (warnRec .checksumMismatch off info) s = .ok () (s.warnMismatch b off info) := by
  cases b <;> rfl

/-- VERIFY16 where the span and the trailer are there. -/
theorem verify16Op_ok (hr : 16 ≤ s.cfg.doc.readMaxBits) (hs : s.pos / 8 ≤ s.msgStartByte ∨ s.pos / 8 ≤ s.len)
    (h : s.pos + 16 ≤ s.effBound) :
    verify16Op s =
      .ok (decide (memRead s.mem s.pos 16 = (crc16 s.cfg.doc.crc16Poly s.crc16Reflect s.spanBytes).toNat))
        ((((s.setAcc16 (crc16Acc s.cfg.doc.crc16Poly s.crc16Reflect s.spanBytes)).setPos (s.pos + 16)).emit
            { id := .trailer16, off := s.pos, len := 16, val := some (memRead s.mem s.pos 16) }).warnMismatch
          (decide (memRead s.mem s.pos 16 ≠ (crc16 s.cfg.doc.crc16Poly s.crc16Reflect s.spanBytes).toNat)) s.pos
          (crc16 s.cfg.doc.crc16Poly s.crc16Reflect s.spanBytes).toNat) := by
  simp only [verify16Op]
  rw [bind_of_ok (calc16_ok hs), getPos_bind, bind_of_ok (readField_ok (by simpa using hr) (by simpa using h)),
    bind_of_ok (whenD_warnRec _ _ _ _)]
  rfl

/-- VERIFY32 where the span and the trailer are there. -/
theorem verify32Op_ok (hr : 32 ≤ s.cfg.doc.readMaxBits) (hs : s.pos / 8 ≤ s.msgStartByte ∨ s.pos / 8 ≤ s.len)
    (h : s.pos + 32 ≤ s.effBound) :
    verify32Op s =
      .ok (decide (memRead s.mem s.pos 32 = (crc32 s.cfg.doc.crc32Poly s.cfg.crc32Reflect s.spanBytes).toNat))
        ((((s.setAcc32 (crc32Acc s.cfg.doc.crc32Poly s.cfg.crc32Reflect s.spanBytes)).setPos (s.pos + 32)).emit
            { id := .trailer32, off := s.pos, len := 32, val := some (memRead s.mem s.pos 32) }).warnMismatch
          (decide (memRead s.mem s.pos 32 ≠ (crc32 s.cfg.doc.crc32Poly s.cfg.crc32Reflect s.spanBytes).toNat)) s.pos
          (crc32 s.cfg.doc.crc32Poly s.cfg.crc32Reflect s.spanBytes).toNat) := by
  simp only [verify32Op]
  rw [bind_of_ok (calc32_ok hs), getPos_bind, bind_of_ok (readField_ok (by simpa using hr) (by simpa using h)),
    bind_of_ok (whenD_warnRec _ _ _ _)]
  rfl

/-! ### The tables are linear over exclusive or -/

theorem crc32Bit_xor (p : BitVec 32) (r : Bool) (a b : BitVec 32) :
    crc32Bit p r (a ^^^ b) = crc32Bit p r a ^^^ crc32Bit p r b := by
  unfold crc32Bit
  cases r
  · simp only [Bool.false_eq_true, if_false, BitVec.getLsbD_xor, BitVec.shiftLeft_xor_distrib]
    cases a.getLsbD 31 <;> cases b.getLsbD 31 <;> simp <;> ac_nf <;> simp
  · simp only [if_true, BitVec.getLsbD_xor, BitVec.ushiftRight_xor_distrib]
    cases a.getLsbD 0 <;> cases b.getLsbD 0 <;> simp <;> ac_nf <;> simp

theorem crc16Bit_xor (p : BitVec 16) (r : Bool) (a b : BitVec 16) :
    crc16Bit p r (a ^^^ b) = crc16Bit p r a ^^^ crc16Bit p r b := by
  unfold crc16Bit
  cases r
  · simp only [Bool.false_eq_true, if_false, BitVec.getLsbD_xor, BitVec.shiftLeft_xor_distrib]
    cases a.getLsbD 15 <;> cases b.getLsbD 15 <;> simp <;> ac_nf <;> simp
  · simp only [if_true, BitVec.getLsbD_xor, BitVec.ushiftRight_xor_distrib]
    cases a.getLsbD 0 <;> cases b.getLsbD 0 <;> simp <;> ac_nf <;> simp

theorem eightTimes_xor {w : Nat} (f : BitVec w → BitVec w) (hf : ∀ a b, f (a ^^^ b) = f a ^^^ f b) (a b : BitVec w) :
    eightTimes f (a ^^^ b) = eightTimes f a ^^^ eightTimes f b := by
  simp [eightTimes, hf]

end Sys2Proof.Machine
end

