-- ==== Sys2Proof/Laws/Closed.lean ====
section
/-! SUPPORT. What any sub-step is made of, said once. `Closed W` says that a predicate `W` of sub-steps holds of each atomic
sub-step and is kept by the ways sub-steps are put together; then it holds of every sub-step of the block, whatever
hooks are configured. -/

namespace Sys2Proof.Machine

variable {α β : Type} {W : (α : Type) → D α → Prop}

/-- The atoms and the combinations of which sub-steps are made. -/
structure Closed (W : (α : Type) → D α → Prop) : Prop where
  pure' : ∀ {α : Type} (a : α), W _ (pure a : D α)
  bind' : ∀ {α β : Type} {x : D α} {f : α → D β}, W _ x → (∀ a, W _ (f a)) → W _ (x >>= f)
  reads' : ∀ {α : Type} (f : State → α), W α (fun s => .ok (f s) s)
  raise' : ∀ {α : Type} (e : ErrKind), W α (raise e)
  refuse' : ∀ {α : Type} (r : Refusal), W α (refuse r)
  draw' : ∀ {α : Type} (free : Nat → α), W _ (draw free)
  needParam' : ∀ {α : Type} (v : Option α) (p : OpenParam), W _ (needParam v p)
  checkCqich' : W _ checkCqich
  checkCompact' : ∀ f, W _ (checkCompact f)
  setSeq' : ∀ q, W _ (setSeq q)
  warnRec' : ∀ k o i, W _ (warnRec k o i)
  moveBits' : ∀ w, W _ (moveBits w)
  readBits' : ∀ w, W _ (readBits w)
  readField' : ∀ {id : FieldId} (_ : id ≠ .cid) (w : Nat), W _ (readField id w)
  skipField' : ∀ id n, W _ (skipField id n)
  rcidOp' : W _ rcidOp
  rcidField' : W _ rcidField
  sampleAlt' : W _ sampleAlt
  calc16' : W _ calc16
  calc32' : W _ calc32
  hookRead' : ∀ id field w (env : Nat → Env),
    W _ (do let o ← getPos; let v ← readBits w; emitHook id field o w (some v); pure (env v))
  hookTwo' : ∀ id field b (env : Nat → Env),
    W _ (do let o ← getPos; let v ← readTwo 32 b; emitHook id field o (32 + b) (some v); pure (env v))
  hookSkip' : ∀ id field n (env : Env),
    W _ (do let o ← getPos; skipBits n; emitHook id field o n none; pure env)
  hookEmit' : ∀ id k o n b, W _ (hookEmit id k o n b)
  stcZone' : ∀ m p, W _ (modSession fun x => { x with stcZoneMatrix := m, stcZoneDedicatedPilots := p })
  incCid' : ∀ f : Bool → Bool, W _ (modSession fun x => { x with incCid := f x.incCid })
  nLayer' : ∀ v, W _ (modSession fun x => { x with nLayer := v })
  bracket' : ∀ (n : Nat) {arm : D Unit}, W _ arm → W _ (bracket n arm)
  bracketed' : ∀ {α : Type} (n : Nat) {x : D α}, W _ x → W _ (do pushLimit n; let a ← x; closeIe; pure a)

/-- And the writes of the Compact family and of messages. -/
structure ClosedAll (W : (α : Type) → D α → Prop) : Prop extends Closed W where
  harqMode' : ∀ v, W _ (modSession fun x => { x with harqMode := v })
  cidType' : ∀ c, W _ (modSession fun x => { x with cidType := c })
  format' : ∀ c f, W _ (modSession fun x => { x with cidType := c, fmtCfg := f })
  msgStart' : W _ (modS fun s => s.setMsgStart (s.pos / 8))

namespace Closed

variable (h : Closed W)
include h

theorem getS' : W _ getS := h.reads' fun s => s

theorem getPos' : W _ getPos := h.reads' fun s => s.pos

theorem evalD' (d : Dir) (env : Env) (e : HookExpr) : W _ (evalD d env e) := h.reads' fun s => evalExpr s d env e

theorem evalField' (d : Dir) (env : Env) (f : Option HookExpr) : W _ (evalField d env f) :=
  h.reads' fun s => f.map (evalExpr s d env)

theorem padNibble' : W _ padNibble := h.bind' h.getPos' fun p => h.moveBits' (padAmount 4 p)

theorem padByte' : W _ padByte := h.bind' h.getPos' fun p => h.moveBits' (padAmount 8 p)

theorem readTwo' (a b : Nat) : W _ (readTwo a b) :=
  h.bind' (h.readBits' a) fun _ => h.bind' (h.readBits' b) fun _ => h.pure' _

theorem whenD' (c : Bool) {x : D Unit} (hx : W _ x) : W _ (whenD c x) := by
  cases c
  · exact h.pure' ()
  · exact hx

theorem loopD' {f : α → D α} (hf : ∀ a, W _ (f a)) (n : Nat) : ∀ a, W _ (loopD f n a) := by
  induction n with
  | zero => exact fun a => h.pure' a
  | succ n ih => exact fun a => h.bind' (hf a) ih

theorem verify16Op' : W _ verify16Op :=
  h.bind' h.calc16' fun _ => h.bind' h.getPos' fun _ =>
    h.bind' (h.readField' (by simp) 16) fun _ => h.bind' (h.whenD' _ (h.warnRec' _ _ _)) fun _ => h.pure' _

theorem verify32Op' : W _ verify32Op :=
  h.bind' h.calc32' fun _ => h.bind' h.getPos' fun _ =>
    h.bind' (h.readField' (by simp) 32) fun _ => h.bind' (h.whenD' _ (h.warnRec' _ _ _)) fun _ => h.pure' _

theorem kindOf' (lvl : Level) (d : Dir) (sub : Nat) : W _ (kindOf lvl d sub) := by
  refine h.bind' h.getS' fun s => ?_
  cases lvl <;> cases d
  · exact h.pure' _
  · exact h.bind' (h.needParam' _ _) fun m => h.pure' _
  · exact h.pure' _
  · exact h.bind' (h.needParam' _ _) fun m => h.pure' _

theorem lenWidth' (lvl : Level) (d : Dir) : W _ (lenWidth lvl d) := by
  refine h.bind' h.getS' fun s => ?_
  cases lvl <;> cases d
  · exact h.pure' _
  · exact h.needParam' _ _
  · exact h.pure' _
  · exact h.pure' _

theorem whileDremD' {f : α → D α} (hf : ∀ a, W _ (f a)) (n : Nat) : ∀ a, W _ (whileDremD f n a) := by
  induction n with
  | zero => exact fun _ => h.refuse' _
  | succ n ih =>
    intro a
    refine h.bind' h.getS' fun s => ?_
    split
    · exact h.pure' a
    · refine h.bind' (hf a) fun b => h.bind' h.getS' fun t => ?_
      split
      · exact h.refuse' _
      · exact ih b

theorem hookWriteNLayer' (id : HookId) (v : Nat) : W _ (hookWriteNLayer id v) := by
  unfold hookWriteNLayer
  split
  · exact h.nLayer' _
  · exact h.refuse' _

theorem runProg' {call : HookCall → D Unit} (hc : ∀ c, W _ (call c)) (id : HookId)
    (hid : ∀ v, W _ (hookWriteCidType id v)) (d : Dir) (sb : Bool) (p : HookProg) :
    ∀ env, W _ (runProg call id d sb p env) := by
  induction p with
  | nop => exact fun env => h.pure' env
  | assignAt x e => exact fun env => h.bind' (h.evalD' _ _ _) fun _ => h.bind' (h.evalD' _ _ _) fun _ => h.pure' _
  | assign x e => exact fun env => h.bind' (h.evalD' _ _ _) fun _ => h.pure' _
  | read x w field =>
    exact fun env => h.bind' (h.evalD' _ _ _) fun n => h.bind' (h.evalField' _ _ _) fun k => h.hookRead' id k n _
  | read48 x field => exact fun env => h.bind' (h.evalField' _ _ _) fun k => h.hookTwo' id k 16 _
  | read64 x field => exact fun env => h.bind' (h.evalField' _ _ _) fun k => h.hookTwo' id k 32 _
  | rcid x y emit =>
    intro env
    refine h.bind' ?_ fun c => h.pure' _
    unfold rcidAs
    split
    · exact h.rcidField'
    · exact h.rcidOp'
  | skip w field =>
    exact fun env =>
      h.bind' (h.evalD' _ _ _) fun n => h.bind' (h.evalField' _ _ _) fun k => h.hookSkip' id k n env
  | padn => exact fun env => h.bind' h.padNibble' fun _ => h.pure' env
  | padb => exact fun env => h.bind' h.padByte' fun _ => h.pure' env
  | emit k o n b =>
    exact fun env => h.bind' (h.evalD' _ _ _) fun _ => h.bind' (h.evalD' _ _ _) fun _ =>
      h.bind' (h.evalD' _ _ _) fun _ => h.bind' (h.hookEmit' _ _ _ _ _) fun _ => h.pure' env
  | warn k o info =>
    exact fun env => h.bind' (h.evalD' _ _ _) fun _ => h.bind' (h.evalD' _ _ _) fun _ =>
      h.bind' (h.warnRec' _ _ _) fun _ => h.pure' env
  | verify16 => exact fun env => h.bind' h.verify16Op' fun _ => h.pure' _
  | control k => exact fun env => h.bind' (hc _) fun _ => h.pure' env
  | nestedIe kind ul sub lenBits ieStart =>
    exact fun env => h.bind' (h.evalD' _ _ _) fun _ => h.bind' (h.evalD' _ _ _) fun _ => h.bind' (h.evalD' _ _ _) fun _ =>
      h.bind' (h.evalD' _ _ _) fun _ => h.bind' (hc _) fun _ => h.pure' env
  | region lenBits a ih => exact fun env => h.bind' (h.evalD' _ _ _) fun n => h.bracketed' n (ih env)
  | container ul => exact fun env => h.bind' (h.evalD' _ _ _) fun _ => h.bind' (hc _) fun _ => h.pure' env
  | seq a b iha ihb => exact fun env => h.bind' (iha env) fun e => ihb e
  | ite c a b iha ihb =>
    intro env
    refine h.bind' (h.evalD' _ _ _) fun n => ?_
    split
    · exact iha env
    · exact ihb env
  | loop n a ih => exact fun env => h.bind' (h.evalD' _ _ _) fun k => h.loopD' ih k env
  | whileDrem a ih => exact fun env => h.bind' h.getS' fun s => h.whileDremD' ih _ env
  | writeNLayer e =>
    exact fun env => h.bind' (h.evalD' _ _ _) fun v => h.bind' (h.hookWriteNLayer' id v) fun _ => h.pure' env
  | writeCidType e => exact fun env => h.bind' (h.evalD' _ _ _) fun v => h.bind' (hid v) fun _ => h.pure' env

theorem opaqueBody' (id : HookId) : W _ (opaqueBody id) := h.bind' h.getS' fun _ => h.skipField' _ _

theorem orFree' (v : Option α) (free : Nat → α) : W _ (orFree v free) := by
  cases v
  · exact h.draw' free
  · exact h.pure' _

theorem crcTrailer' (b : Bool) : W _ (crcTrailer b) := h.whenD' b (h.bind' h.verify16Op' fun _ => h.pure' ())

theorem skipRest' (mode o : Nat) : W _ (skipRest mode o) :=
  h.bind' h.getS' fun _ => h.bind' (h.skipField' _ _) fun _ => h.warnRec' _ _ _

section Calls

variable {call : HookCall → D Unit} (hc : ∀ c, W _ (call c))
include hc

theorem invokeHook' (id : HookId) (hid : ∀ v, W _ (hookWriteCidType id v)) (d : Dir) (sb : Bool) {dflt : D Unit}
    (hd : W _ dflt) (env : Env) : W _ (invokeHook call id d sb dflt env) := by
  refine h.bind' h.getS' fun s => ?_
  split
  · exact h.bind' (h.runProg' hc _ hid _ _ _ _) fun e => h.reads' _
  · exact h.bind' hd fun _ => h.pure' none

theorem controlHook' (d : Dir) (sb : Bool) (k : ControlKind) : W _ (controlHook call d sb k) :=
  h.bind' (h.invokeHook' hc _ (fun _ => h.refuse' _) _ _ (h.pure' ()) _) fun _ => h.pure' ()

/-! ### The Sub-Burst Container -/

theorem sbPart' (d : Dir) (id : HookId) (hid : ∀ v, W _ (hookWriteCidType id v)) : W _ (sbPart call d id) :=
  h.invokeHook' hc _ hid _ _ (h.opaqueBody' _) _

theorem sbPre' (d : Dir) (l : Layout) : W _ (sbPre call d l) :=
  h.bind' h.getS' fun _ => h.bind' (h.sbPart' hc d _ fun _ => h.refuse' _) fun _ =>
    h.bind' h.getS' fun _ => h.whenD' _ (h.refuse' _)

theorem sbLayers' (d : Dir) (l : Layout) : W _ (sbLayers call d l) :=
  h.bind' h.getS' fun _ =>
    h.whenD' _ (h.loopD' (fun _ => h.bind' (h.sbPart' hc d _ fun _ => h.refuse' _) fun _ => h.pure' ()) _ _)

theorem subBurst' (d : Dir) (l : Layout) : W _ (subBurst call d l) :=
  h.bind' (h.sbPre' hc d l) fun _ => h.bind' (h.sbLayers' hc d l) fun _ =>
    h.bind' (h.sbPart' hc d _ fun _ => h.refuse' _) fun _ =>
      h.bind' (h.bind' h.getS' fun _ => h.needParam' _ _) fun b => h.crcTrailer' b

theorem sbLoopRun' (d : Dir) (l : Layout) (k : LoopKind) : W _ (sbLoopRun call d l k) := by
  refine h.bind' h.getS' fun s => ?_
  cases k
  · exact h.bind' (h.needParam' _ _) fun w => h.bind' (h.readField' (by simp) w) fun c =>
      h.loopD' (fun _ => h.subBurst' hc d l) _ _
  · exact h.whileDremD' (fun _ => h.subBurst' hc d l) _ _

theorem containerBody' (d : Dir) (o mode : Nat) (sel : Option Layout) :
    W _ (containerBody call d o mode sel) := by
  cases sel with
  | none => exact h.skipRest' mode o
  | some l =>
    exact h.bind' (h.setSeq' _) fun _ => h.bind' (h.bind' h.getS' fun _ => h.needParam' _ _) fun k =>
      h.bind' (h.sbLoopRun' hc d l k) fun _ => h.bind' (h.setSeq' _) fun _ =>
        h.bind' (h.bind' h.getS' fun _ => h.needParam' _ _) fun b => h.crcTrailer' b

theorem containerFromMode' (d : Dir) {sel : Nat → D (Option Layout)} (hs : ∀ m, W _ (sel m)) :
    W _ (containerFromMode call d sel) :=
  h.bind' h.getPos' fun _ => h.bind' (h.readField' (by simp) 4) fun mode =>
    h.bind' (hs mode) fun l => h.containerBody' hc d _ _ l

theorem container' (d : Dir) : W _ (container call d) :=
  h.bind' (h.setSeq' _) fun _ => h.bind' (h.invokeHook' hc _ (fun _ => h.refuse' _) _ _ (h.pure' ()) _) fun _ =>
    h.bind' (h.setSeq' _) fun _ => h.containerFromMode' hc d fun _ => h.bind' h.getS' fun _ => h.pure' _

/-! ### The rules of the dispatch -/

theorem plainBody' (d : Dir) (id : HookId) (hid : ∀ v, W _ (hookWriteCidType id v)) : W _ (plainBody call d id) :=
  h.bind' (h.invokeHook' hc _ hid _ _ (h.opaqueBody' _) _) fun _ => h.pure' ()

theorem ruleStcZone' (d : Dir) : W _ (ruleStcZone call d) :=
  h.bind' (h.invokeHook' hc _ (fun _ => h.refuse' _) _ _ (h.opaqueBody' _) _) fun _ =>
    h.bind' (h.orFree' _ _) fun m => h.bind' (h.orFree' _ _) fun p => h.stcZone' m p

end Calls

theorem ruleCidSwitch' : W _ ruleCidSwitch :=
  h.bind' h.getS' fun _ => h.bind' (h.skipField' _ _) fun _ => h.incCid' _

theorem bodyArm' {x : D Unit} (hx : W _ x) : W _ (bodyArm x) := h.bind' (h.setSeq' _) fun _ => hx
theorem skipArm' {x : D Unit} (hx : W _ x) : W _ (skipArm x) := h.bind' (h.setSeq' _) fun _ => hx

theorem skipUnknown' (sub n o : Nat) : W _ (skipUnknown sub n o) :=
  h.bind' (h.skipField' _ _) fun _ => h.warnRec' _ _ _

theorem skipUnimplemented' (n : Nat) : W _ (skipUnimplemented n) := h.skipField' _ _

section Arms

variable {call : HookCall → D Unit} (hc : ∀ c, W _ (call c))
include hc

theorem l1Arm' (d : Dir) (n : Nat) (k : L1Kind) : W _ (l1Arm call d n k) := by
  cases k
  case cidSwitch => exact h.bodyArm' h.ruleCidSwitch'
  case stcZone => exact h.bodyArm' (h.ruleStcZone' hc d)
  case mimoBasic => exact h.skipArm' (h.skipUnimplemented' n)
  case mimoEnhanced => exact h.skipArm' (h.skipUnimplemented' n)
  all_goals exact h.bodyArm' (h.plainBody' hc d _ (fun _ => h.refuse' _))

theorem l2Arm' (d : Dir) (n : Nat) (k : L2Kind) : W _ (l2Arm call d n k) := by
  cases k
  case handoverVariant => exact h.skipArm' (h.skipUnimplemented' n)
  case harqMap => exact h.bodyArm' (h.container' hc d)
  all_goals exact h.bodyArm' (h.plainBody' hc d _ (fun _ => h.refuse' _))

theorem ieArm' (d : Dir) (sub n o : Nat) (k : Option IeKind) : W _ (ieArm call d sub n o k) := by
  match k with
  | none => exact h.skipArm' (h.skipUnknown' _ _ _)
  | some (.l1 k) => exact h.l1Arm' hc d n k
  | some (.l2 k) => exact h.l2Arm' hc d n k

theorem mappedArm' (lvl : Level) (d : Dir) (sub n o : Nat) : W _ (mappedArm call lvl d sub n o) :=
  h.bind' (h.kindOf' _ _ _) fun k => h.ieArm' hc d sub n o k

theorem nestedArm' (kind : NestedKind) (d : Dir) (sub n o : Nat) : W _ (nestedArm call kind d sub n o) := by
  cases kind with
  | given k => exact h.ieArm' hc d sub n o k
  | mapped lvl => exact h.mappedArm' hc lvl d sub n o

end Arms

theorem callHook' (n : Nat) : ∀ c, W _ (callHook n c) := by
  induction n with
  | zero => exact fun _ => h.refuse' _
  | succ n ih =>
    intro c
    cases c with
    | control k d sb => exact h.controlHook' ih d sb k
    | nested kind d sub lenBits ieStart => exact h.bracket' lenBits (h.nestedArm' ih kind d sub lenBits ieStart)
    | container d => exact h.container' ih d

theorem topCall' : ∀ c, W _ (topCall c) := fun c => h.bind' h.getS' fun _ => h.callHook' _ c

/-! ### IEs -/

theorem regBody' (k w : Nat) : W _ (regBody k w) := h.bind' (h.readField' (by simp) _) fun _ => h.pure' ()

theorem cidListPart' (d : Dir) (f : Family) : W _ (cidListPart d f) :=
  h.bind' h.getS' fun _ => h.whenD' _ <| h.bind' (h.setSeq' _) fun _ =>
    h.bind' (h.readField' (by simp) _) fun n =>
      h.loopD' (fun _ => h.bind' h.rcidField' fun _ => h.pure' ()) _ _

theorem regular' (d : Dir) (f : Family) : W _ (regular d f) :=
  h.bind' h.sampleAlt' fun _ => h.bind' (h.cidListPart' d f) fun _ => h.bind' (h.setSeq' _) fun _ =>
    h.bind' h.getS' fun _ => h.bind' (h.regBody' 0 _) fun _ => h.whenD' _ (h.regBody' 1 _)

theorem unassigned' (d : Dir) (f : Family) (t o : Nat) : W _ (unassigned d f t o) := by
  refine h.bind' h.getS' fun s => ?_
  cases s.cfg.l0Unassigned
  · exact h.bind' (h.warnRec' _ _ _) fun _ => h.raise' _
  · exact h.regular' d f

theorem typeField' : W _ typeField := h.bind' h.getS' fun _ => h.readField' (by simp) _

theorem lenField' (lvl : Level) (d : Dir) : W _ (lenField lvl d) :=
  h.bind' (h.lenWidth' _ _) fun w => h.bind' (h.readField' (by simp) w) fun _ => h.bind' h.getS' fun _ => h.pure' _

theorem extendedWith' (lvl : Level) (d : Dir) {arm : Nat → Nat → D Unit} (ha : ∀ a n, W _ (arm a n)) :
    W _ (extendedWith lvl d arm) :=
  h.bind' (h.setSeq' _) fun _ => h.bind' h.getS' fun _ => h.bind' (h.readField' (by simp) _) fun sub =>
    h.bind' (h.lenField' _ _) fun n => h.bracket' n (ha sub n)

theorem extended' (d : Dir) (o : Nat) : W _ (extended d o) :=
  h.extendedWith' _ _ fun _ _ => h.mappedArm' h.topCall' _ _ _ _ _

theorem extended2' (d : Dir) (o : Nat) : W _ (extended2 d o) :=
  h.extendedWith' _ _ fun _ _ => h.mappedArm' h.topCall' _ _ _ _ _

theorem l0Arm' (d : Dir) (f : Family) (o t : Nat) : W _ (l0Arm d f o t) := by
  unfold l0Arm
  repeat' split
  · exact h.regular' d f
  · exact h.unassigned' d f t o
  · exact h.regular' d f
  · exact h.extended2' d o
  · exact h.extended' d o
  · exact h.unassigned' d f t o

theorem decodeLegacyIe' (d : Dir) : W _ (decodeLegacyIe d) :=
  h.bind' h.getPos' fun o => h.bind' h.typeField' fun t => h.l0Arm' d _ o t

end Closed

namespace ClosedAll

variable (h : ClosedAll W)
include h

/-! ### The Compact family and messages -/

theorem compactEffect' (k : CompactKind) (r : HookRets) : W _ (compactEffect k r) := by
  cases k
  case formatConfiguration =>
    exact h.bind' (h.orFree' _ _) fun c => h.bind' (h.orFree' _ _) fun b => h.bind' (h.orFree' _ _) fun a =>
      h.bind' (h.orFree' _ _) fun l => h.format' _ _
  case harqModeSwitch => exact h.bind' (h.orFree' _ _) fun v => h.harqMode' _
  all_goals exact h.pure' ()

theorem compactCode' (w : Nat) : W _ (compactCode w) := by
  unfold compactCode
  split
  · exact h.pure' 0
  · exact h.readField' (by simp) w

theorem decodeCompactIe' {call : HookCall → D Unit} (hc : ∀ c, W _ (call c)) (d : Dir) :
    W _ (decodeCompactIe call d) := by
  refine h.bind' h.getS' fun s => ?_
  split
  · exact h.bind' (h.compactCode' _) fun c => h.bind' (h.setSeq' _) fun _ =>
      h.bind' (h.invokeHook' hc _ (fun _ => h.refuse' _) _ _ (h.opaqueBody' _) _) fun r => h.compactEffect' _ r
  · exact h.refuse' _

theorem decodeIe' (d : Dir) (f : Family) : W _ (decodeIe d f) := by
  cases f
  · exact h.decodeLegacyIe' d
  · exact h.decodeCompactIe' h.topCall' d

theorem hookWriteCidType' (id : HookId) (v : Nat) : W _ (hookWriteCidType id v) := by
  unfold hookWriteCidType
  split
  · exact h.cidType' _
  · exact h.refuse' _

theorem headerCidType' (k : MsgKind) (r : HookRets) : W _ (headerCidType k r) := by
  unfold headerCidType
  split
  · cases r
    · exact h.bind' (h.draw' _) fun c => h.cidType' _
    · exact h.pure' ()
  · exact h.pure' ()

theorem msgHeader' (k : MsgKind) (d : Dir) : W _ (msgHeader k d) :=
  h.bind' h.getPos' fun _ => h.bind' (h.invokeHook' h.topCall' _ (h.hookWriteCidType' _) _ _ (h.pure' ()) _) fun r =>
    h.bind' (h.headerCidType' k r) fun _ => h.bind' h.getS' fun _ => h.pure' _

theorem ieLoop' (d : Dir) (f : Family) (e n : Nat) : W _ (ieLoop d f e n) := by
  induction n with
  | zero => exact h.refuse' _
  | succ n ih =>
    refine h.bind' h.getS' fun s => ?_
    split
    · exact h.pure' ()
    · refine h.bind' (h.setSeq' _) fun _ => h.bind' (h.decodeIe' d f) fun _ => h.bind' h.getS' fun t => ?_
      split
      · exact h.refuse' _
      · exact ih

theorem msgTrailer' (k : MsgKind) : W _ (msgTrailer k) := by
  unfold msgTrailer
  split
  · exact h.bind' h.verify16Op' fun _ => h.pure' ()
  · exact h.bind' h.verify32Op' fun _ => h.pure' ()

end ClosedAll

end Sys2Proof.Machine
end

