-- ==== Sys2Proof/Laws/Rel.lean ====
section
/-! SUPPORT. What any sub-step can do, said once. `R` is a relation between states, `E` one between a state, a stop and the
state it leaves: where they hold of each atomic move and each atomic stop of the block (`Moves`, and for the Compact
family and messages `MovesAll`), they hold of every sub-step, whatever hooks are configured (`Within`). Every
whole-machine rule is an instance. -/

namespace Sys2Proof.Machine

variable {α β : Type} {R : State → State → Prop} {E : State → Stop → State → Prop}

/-- Where the next record of a hook may begin lies after every record that is not its own and not before any that is. -/
theorem State.emitFloor_le (s : State) (id : HookId) :
    s.start ≤ s.emitFloor id ∧
      ∀ r ∈ s.out, (if isHookOf id r.id = true then r.off else r.off + r.len) ≤ s.emitFloor id := by
  have key : ∀ (l : List OutRec) (a : Nat),
      let f := l.foldl (fun a r => max a (if isHookOf id r.id = true then r.off else r.off + r.len)) a
      a ≤ f ∧ ∀ r ∈ l, (if isHookOf id r.id = true then r.off else r.off + r.len) ≤ f := by
    intro l
    induction l with
    | nil => simp
    | cons x l ih =>
      intro a
      have h := ih (max a (if isHookOf id x.id = true then x.off else x.off + x.len))
      refine ⟨Nat.le_trans (Nat.le_max_left _ _) h.1, fun r hr => ?_⟩
      rcases List.mem_cons.mp hr with rfl | hr
      · exact Nat.le_trans (Nat.le_max_right _ _) h.1
      · exact h.2 r hr
  exact key s.out s.start

/-- The atomic moves and stops of the sub-steps that every group uses. -/
structure Moves (R : State → State → Prop) (E : State → Stop → State → Prop) : Prop where
  refl : ∀ s, R s s
  trans : ∀ {s t u}, R s t → R t u → R s u
  stops : ∀ {s e t u}, R s t → E t e u → E s e u
  raised : ∀ s k, E s (.raised k s.pos) s
  refused : ∀ s r, E s (.refused r) s
  faulted : ∀ s, s.len < s.pos / 8 → E s (.faulted .outsideBuffer) s
  move : ∀ s w, s.pos + w ≤ s.effBound → R s (s.setPos (s.pos + w))
  field : ∀ s w r, s.pos + w ≤ s.effBound → r.off = s.pos → r.len = w →
    (∀ v, r.val = some v → v = recordVal s.mem r) → R s ((s.setPos (s.pos + w)).emit r)
  emitted : ∀ s id k o n v, s.emitFloor id ≤ o → o + n ≤ s.pos → (∀ x, v = some x → x = memRead s.mem o n) →
    R s (s.emit { id := .hook id k, off := o, len := n, val := v })
  push : ∀ s n, s.limstk.length < s.cfg.doc.limDepth → (∀ b ∈ s.limstk.head?, s.pos + n ≤ b) →
    R s (s.setLimstk ((s.pos + n) :: s.limstk))
  pop : ∀ s b l, s.limstk = b :: l → R s (s.setLimstk l)
  warn : ∀ s w, R s (s.addWarn w)
  seq : ∀ s q, R s (s.setSeq q)
  acc16 : ∀ s v, R s (s.setAcc16 v)
  acc32 : ∀ s v, R s (s.setAcc32 v)
  draws : ∀ s n, R s (s.setDraws n)
  alt : ∀ s b l, s.altSamples = b :: l → R s (s.setAlt l)
  stcZone : ∀ s m p, R s (s.setSession { s.session with stcZoneMatrix := m, stcZoneDedicatedPilots := p })
  incCid : ∀ s b, R s (s.setSession { s.session with incCid := b })
  nLayer : ∀ s v, R s (s.setSession { s.session with nLayer := v })

/-- And those of the Compact family and the Message sequencer. -/
structure MovesAll (R : State → State → Prop) (E : State → Stop → State → Prop) : Prop extends Moves R E where
  harqMode : ∀ s h, R s (s.setSession { s.session with harqMode := h })
  cidType : ∀ s c, R s (s.setSession { s.session with cidType := c })
  format : ∀ s c f, R s (s.setSession { s.session with cidType := c, fmtCfg := f })
  msgStart : ∀ s, R s (s.setMsgStart (s.pos / 8))

/-- What a sub-step that started in `s` ended with. -/
def Post (R : State → State → Prop) (E : State → Stop → State → Prop) (s : State) :
    EStateM.Result Stop State α → Prop
  | .ok _ t => R s t
  | .error e t => E s e t

/-- A sub-step that stays within the two relations. -/
def Within (R : State → State → Prop) (E : State → Stop → State → Prop) (x : D α) : Prop := ∀ s, Post R E s (x s)

/-- Relations between states alone. -/
abbrev WithinStates (R : State → State → Prop) (x : D α) : Prop := Within R (fun s _ t => R s t) x

theorem Within.ends {x : D α} (h : WithinStates R x) (s : State) : R s (endState (x s)) := by
  have := h s
  cases e : x s <;> simpa [e, Post] using this

namespace Moves

variable (h : Moves R E)
include h

theorem pure' (a : α) : Within R E (pure a : D α) := fun s => h.refl s

theorem bind' {x : D α} {f : α → D β} (hx : Within R E x) (hf : ∀ a, Within R E (f a)) : Within R E (x >>= f) := by
  intro s
  have h1 := hx s
  rw [bind_run]
  cases e : x s with
  | ok a t =>
    rw [e] at h1
    have h2 := hf a t
    change Post R E s (f a t)
    cases e2 : f a t <;> rw [e2] at h2
    · exact h.trans h1 h2
    · exact h.stops h1 h2
  | error e' t =>
    rw [e] at h1
    exact h1

theorem getS' : Within R E getS := fun s => h.refl s
theorem getPos' : Within R E getPos := fun s => h.refl s
theorem raise' (e : ErrKind) : Within R E (raise e : D α) := fun s => h.raised s e
theorem refuse' (r : Refusal) : Within R E (refuse r : D α) := fun s => h.refused s r
theorem setSeq' (q : SeqState) : Within R E (setSeq q) := fun s => h.seq s q
theorem warnRec' (k : WarnKind) (o i : Nat) : Within R E (warnRec k o i) := fun s => h.warn s _
theorem draw' (free : Nat → α) : Within R E (draw free) := fun s => h.draws s _

theorem moveBits' (w : Nat) : Within R E (moveBits w) := by
  intro s
  rcases moveBits_cases w s with ⟨hb, e⟩ | ⟨_, e⟩ <;> rw [e]
  · exact h.move s w hb
  · exact h.raised s _

theorem readStop {s : State} {e : Stop} (he : IsReadStop s e) : E s e s := by
  rcases he with rfl | rfl
  · exact h.raised s _
  · exact h.refused s _

theorem readBits' (w : Nat) : Within R E (readBits w) := by
  intro s
  rcases readBits_ok_or_stop w s with ⟨hb, e⟩ | ⟨e', he, e⟩ <;> rw [e]
  · exact h.move s w hb
  · exact h.readStop he

theorem pushLimit' (n : Nat) : Within R E (pushLimit n) := by
  intro s
  rcases pushLimit_cases n s with ⟨e, hd, hb⟩ | e | e <;> rw [e]
  · exact h.push s n hd hb
  · exact h.refused s _
  · exact h.raised s _

theorem popLimit' : Within R E popLimit := by
  intro s
  rcases popLimit_cases s with ⟨b, l, hl, e⟩ | ⟨_, e⟩ <;> rw [e]
  · exact h.pop s b l hl
  · exact h.refused s _

theorem needParam' (v : Option α) (p : OpenParam) : Within R E (needParam v p) := by
  intro s
  rcases needParam_cases v p s with ⟨a, _, e⟩ | ⟨_, e⟩ <;> rw [e]
  · exact h.refl s
  · exact h.refused s _

/-- A record whose identifier is not CID carries the bits themselves. -/
theorem readField' {id : FieldId} (hid : id ≠ .cid) (w : Nat) : Within R E (readField id w) := by
  intro s
  rcases readField_cases id w s with ⟨hb, e⟩ | ⟨e', he, e⟩ <;> rw [e]
  · refine h.field s w _ hb rfl rfl ?_
    rintro v ⟨⟩
    simp [recordVal, hid]
  · exact h.readStop he

theorem skipField' (id : FieldId) (n : Nat) : Within R E (skipField id n) := by
  intro s
  rcases skipField_cases id n s with ⟨hb, e⟩ | ⟨_, e⟩ <;> rw [e]
  · exact h.field s n _ hb rfl rfl (by simp)
  · exact h.raised s _

theorem rcidOp' : Within R E rcidOp := by
  intro s
  rcases rcidOp_cases s with ⟨hb, e⟩ | ⟨_, he, e⟩ | ⟨hb, _, he, e⟩ <;> rw [e]
  · exact h.move s _ hb
  · exact h.readStop he
  · exact h.stops (h.move s 1 hb) (h.readStop he)

theorem rcidField' : Within R E rcidField := by
  intro s
  rcases rcidField_cases s with ⟨hb, e⟩ | ⟨_, he, e⟩ | ⟨hb, _, he, e⟩ <;> rw [e]
  · refine h.field s _ _ hb rfl rfl ?_
    rintro v ⟨⟩
    unfold recordVal State.rcidValue State.rcidWidth
    by_cases hc : s.session.cidType = .normal16
    · simp [hc]
    · have h1 := rcidBits_reduced hc (bufBit s.mem s.pos)
      simp only [hc, if_false]
      rw [if_pos ⟨trivial, by omega⟩]
      simp
  · exact h.readStop he
  · exact h.stops (h.move s 1 hb) (h.readStop he)

theorem sampleAlt' : Within R E sampleAlt := by
  intro s
  rcases sampleAlt_cases s with ⟨b, l, ha, e⟩ | ⟨_, e⟩ <;> rw [e]
  · exact h.alt s b l ha
  · exact h.draws s _

theorem calc16' : Within R E calc16 := by
  intro s
  rcases calc16_cases s with e | ⟨hf, e⟩ <;> rw [e]
  · exact h.acc16 s _
  · exact h.faulted s hf

theorem calc32' : Within R E calc32 := by
  intro s
  rcases calc32_cases s with e | ⟨hf, e⟩ <;> rw [e]
  · exact h.acc32 s _
  · exact h.faulted s hf

theorem checkCqich' : Within R E checkCqich := by
  intro s
  unfold checkCqich
  split
  · exact h.refused s _
  · exact h.refl s

theorem checkCompact' (f : Family) : Within R E (checkCompact f) := by
  intro s
  unfold checkCompact
  split
  · exact h.refused s _
  · exact h.refl s

theorem readTwo' (a b : Nat) : Within R E (readTwo a b) :=
  h.bind' (h.readBits' a) fun _ => h.bind' (h.readBits' b) fun _ => h.pure' _

/-- A field of a hook: bits read, then a record of them where one is asked for. -/
theorem hookRead' {x : D Nat} {id : HookId} {field : Option Nat} {w : Nat} {env : Nat → Env}
    (hx : ∀ s, (s.pos + w ≤ s.effBound ∧ x s = .ok (memRead s.mem s.pos w) (s.setPos (s.pos + w))) ∨
      ∃ e u, x s = .error e u ∧ E s e u) :
    Within R E (do let o ← getPos; let v ← x; emitHook id field o w (some v); pure (env v)) := by
  intro s
  rw [getPos_bind]
  rcases hx s with ⟨hb, e⟩ | ⟨e', u, e, he⟩
  · rw [bind_of_ok e]
    cases field with
    | none => exact h.move s w hb
    | some k =>
      refine h.field s w ⟨.hook id k, s.pos, w, some _⟩ hb rfl rfl ?_
      rintro v ⟨⟩
      simp [recordVal]
  · rw [bind_of_error e]
    exact he

theorem closeRest' (r : Nat) : Within R E (closeRest r) := by
  unfold closeRest
  split
  · exact h.pure' ()
  · exact h.bind' h.getPos' fun _ => h.bind' (h.moveBits' r) fun _ => h.warnRec' _ _ _

theorem closeIe' : Within R E closeIe := h.bind' h.getS' fun _ => h.bind' (h.closeRest' _) fun _ => h.popLimit'

end Moves

/-- Staying within two relations is closed. -/
theorem Moves.closed (h : Moves R E) : Closed (fun _ x => Within R E x) where
  pure' := h.pure'
  bind' := h.bind'
  reads' := fun _ s => h.refl s
  raise' := h.raise'
  refuse' := h.refuse'
  draw' := h.draw'
  needParam' := h.needParam'
  checkCqich' := h.checkCqich'
  checkCompact' := h.checkCompact'
  setSeq' := h.setSeq'
  warnRec' := h.warnRec'
  moveBits' := h.moveBits'
  readBits' := h.readBits'
  readField' := h.readField'
  skipField' := h.skipField'
  rcidOp' := h.rcidOp'
  rcidField' := h.rcidField'
  sampleAlt' := h.sampleAlt'
  calc16' := h.calc16'
  calc32' := h.calc32'
  hookRead' := by
    intro id field w env
    refine h.hookRead' fun s => ?_
    rcases readBits_ok_or_stop w s with hb | ⟨_, he, e⟩
    · exact .inl hb
    · exact .inr ⟨_, _, e, h.readStop he⟩
  hookTwo' := by
    intro id field b env
    refine h.hookRead' fun s => ?_
    have hw := h.readTwo' 32 b s
    rcases readTwo_cases 32 b s with c | ⟨e, c⟩ | ⟨e, _, c⟩
    · exact .inl c
    · rw [c] at hw; exact .inr ⟨e, _, c, hw⟩
    · rw [c] at hw; exact .inr ⟨e, _, c, hw⟩
  hookSkip' := by
    intro id field n env s
    rw [getPos_bind]
    rcases moveBits_cases n s with ⟨hb, e⟩ | ⟨_, e⟩
    · rw [skipBits, bind_of_ok e]
      cases field with
      | none => exact h.move s n hb
      | some k => exact h.field s n ⟨.hook id k, s.pos, n, none⟩ hb rfl rfl (by simp)
    · rw [skipBits, bind_of_error e]
      exact h.raised s _
  hookEmit' := by
    intro id k o n b s
    unfold hookEmit
    split
    · rename_i hc
      refine h.emitted s id k o n _ hc.1 hc.2 ?_
      cases b <;> simp
    · exact h.refused s _
  stcZone' := fun m p s => h.stcZone s m p
  incCid' := fun _ s => h.incCid s _
  nLayer' := fun v s => h.nLayer s v
  bracket' := fun n _ ha => h.bind' (h.pushLimit' n) fun _ => h.bind' ha fun _ => h.closeIe'
  bracketed' := fun n _ hx =>
    h.bind' (h.pushLimit' n) fun _ => h.bind' hx fun a => h.bind' h.closeIe' fun _ => h.pure' a

theorem MovesAll.closedAll (h : MovesAll R E) : ClosedAll (fun _ x => Within R E x) :=
  { h.toMoves.closed with
    harqMode' := fun v s => h.harqMode s v
    cidType' := fun c s => h.cidType s c
    format' := fun c f s => h.format s c f
    msgStart' := fun s => h.msgStart s }

namespace MovesAll

variable (h : MovesAll R E)
include h

theorem headerAndLimit' (k : MsgKind) (d : Dir) : Within R E (headerAndLimit k d) := by
  have c := h.closedAll
  refine h.bind' h.getS' fun s => ?_
  split
  · exact h.bind' (h.pushLimit' _) fun _ => c.msgHeader' k d
  · exact h.bind' (c.msgHeader' k d) fun m => h.bind' (h.pushLimit' _) fun _ => h.pure' m

theorem segmentBody' (k : MsgKind) : Within R E (segmentBody k) :=
  have c := h.closedAll
  h.bind' h.getS' fun _ => h.bind' (h.setSeq' _) fun _ => h.bind' (h.headerAndLimit' k _) fun m =>
    h.bind' h.getS' fun _ => h.bind' (c.ieLoop' _ _ _ _) fun _ => h.bind' h.popLimit' fun _ =>
      h.bind' (h.setSeq' _) fun _ => h.bind' c.padByte' fun _ => h.bind' (h.setSeq' _) fun _ =>
        h.bind' (c.whenD' _ (c.msgTrailer' k)) fun _ => h.pure' m

theorem segment' (k : MsgKind) : Within R E (segment k) :=
  have c := h.closedAll
  h.bind' (h.segmentBody' k) fun _ => c.whenD' _ <|
    h.bind' (fun s => h.msgStart s) fun _ => h.bind' (h.segmentBody' .compactUlMap) fun _ => h.pure' ()

end MovesAll

end Sys2Proof.Machine
end

