-- ==== Sys2Proof/Laws/Balance.lean ====
section
/-! SUPPORT. Limits are balanced: a sub-step that answers leaves the limit stack as it found it, whatever hooks are
configured (42_ie_dispatch.md R172, R174). -/

namespace Sys2Proof.Machine

/-- A sub-step that, where it answers, leaves LIMSTK as it found it. -/
def Balanced {α : Type} (x : D α) : Prop := ∀ s a t, x s = .ok a t → t.limstk = s.limstk

theorem balanced_bind {α β : Type} {x : D α} {f : α → D β} (hx : Balanced x) (hf : ∀ a, Balanced (f a)) :
    Balanced (x >>= f) := by
  intro s b u h
  obtain ⟨a, t, h1, h2⟩ := bind_eq_ok h
  rw [hf a t b u h2, hx s a t h1]

theorem balanced_moveBits (w : Nat) : Balanced (moveBits w) := by
  intro s a t h
  rw [(moveBits_eq_ok h).2, State.setPos_limstk]

theorem balanced_readBits (w : Nat) : Balanced (readBits w) := by
  intro s a t h
  rw [(readBits_eq_ok h).2.2.2, State.setPos_limstk]

theorem balanced_emitHook (id : HookId) (field : Option Nat) (o n : Nat) (v : Option Nat) :
    Balanced (emitHook id field o n v) := by
  intro s a t h
  cases field <;> cases h <;> rfl

theorem balanced_reads {α : Type} (f : State → α) : Balanced (fun s => .ok (f s) s : D α) := by
  intro s a t h
  cases h
  rfl

theorem balanced_mods (f : State → State) (hf : ∀ s, (f s).limstk = s.limstk) : Balanced (modS f) := by
  intro s a t h
  cases h
  exact hf s

theorem balanced_rcidOp : Balanced rcidOp := by
  intro s a t h
  rcases rcidOp_cases s with ⟨_, e⟩ | ⟨_, _, e⟩ | ⟨_, _, _, e⟩ <;> rw [e] at h <;> cases h
  rfl

theorem balanced_readField (id : FieldId) (w : Nat) : Balanced (readField id w) :=
  balanced_bind (balanced_reads _) fun _ => balanced_bind (balanced_readBits w) fun _ =>
    balanced_bind (balanced_mods _ fun _ => rfl) fun _ => balanced_reads _

theorem balanced_calc16 : Balanced calc16 := by
  intro s a t h
  rcases calc16_cases s with e | ⟨_, e⟩ <;> rw [e] at h <;> cases h
  rfl

theorem balanced_calc32 : Balanced calc32 := by
  intro s a t h
  rcases calc32_cases s with e | ⟨_, e⟩ <;> rw [e] at h <;> cases h
  rfl

theorem balanced_closeRest (r : Nat) : Balanced (closeRest r) := by
  unfold closeRest
  split
  · exact balanced_reads _
  · exact balanced_bind (balanced_reads _) fun _ => balanced_bind (balanced_moveBits r) fun _ =>
      balanced_mods _ fun _ => rfl

/-- Close takes the top limit off. -/
theorem closeIe_ok {s t : State} {u : Unit} (h : closeIe s = .ok u t) :
    ∃ b l, s.limstk = b :: l ∧ t.limstk = l := by
  simp only [closeIe, getS_bind] at h
  obtain ⟨a, v, h1, h2⟩ := bind_eq_ok h
  have hv := balanced_closeRest _ _ _ _ h1
  rcases popLimit_cases v with ⟨b, l, hl, e⟩ | ⟨_, e⟩ <;> rw [e] at h2 <;> cases h2
  exact ⟨b, l, hv ▸ hl, rfl⟩

/-- A limit pushed, a balanced part, the limit closed. -/
theorem balanced_bracketed {α : Type} (n : Nat) {x : D α} (hx : Balanced x) :
    Balanced (do pushLimit n; let a ← x; closeIe; pure a) := by
  intro s a t h
  obtain ⟨_, s1, h1, h2⟩ := bind_eq_ok h
  obtain ⟨b, s2, h3, h4⟩ := bind_eq_ok h2
  obtain ⟨_, s3, h5, h6⟩ := bind_eq_ok h4
  cases h6
  obtain ⟨b', l, h7, h8⟩ := closeIe_ok h5
  rw [hx _ _ _ h3] at h7
  rcases pushLimit_cases n s with ⟨e, _, _⟩ | e | e <;> rw [e] at h1 <;> cases h1
  simp only [State.setLimstk_limstk, List.cons.injEq] at h7
  rw [h8, ← h7.2]

theorem balanced_bracket (n : Nat) {arm : D Unit} (ha : Balanced arm) : Balanced (bracket n arm) := by
  intro s a t h
  obtain ⟨_, s1, h1, h2⟩ := bind_eq_ok h
  obtain ⟨b, s2, h3, h4⟩ := bind_eq_ok h2
  exact balanced_bracketed n ha s b t
    ((bind_of_ok h1).trans ((bind_of_ok h3).trans ((bind_of_ok h4).trans (pure_run b t))))

/-- Every sub-step is balanced. -/
theorem balanced_closed : ClosedAll (fun _ x => Balanced x) where
  pure' := fun _ => balanced_reads _
  bind' := balanced_bind
  reads' := balanced_reads
  raise' := by intro α e s a t h; cases h
  refuse' := by intro α e s a t h; cases h
  draw' := by intro α f s a t h; cases h; rfl
  needParam' := by
    intro α v p s a t h
    rcases needParam_cases v p s with ⟨b, _, e⟩ | ⟨_, e⟩ <;> rw [e] at h <;> cases h
    rfl
  checkCqich' := by
    intro s a t h
    unfold checkCqich at h
    split at h <;> cases h
    rfl
  checkCompact' := by
    intro f s a t h
    unfold checkCompact at h
    split at h <;> cases h
    rfl
  setSeq' := fun _ => balanced_mods _ fun _ => rfl
  warnRec' := fun _ _ _ => balanced_mods _ fun _ => rfl
  moveBits' := balanced_moveBits
  readBits' := balanced_readBits
  readField' := fun _ w => balanced_readField _ w
  skipField' := fun _ n =>
    balanced_bind (balanced_reads _) fun _ => balanced_bind (balanced_moveBits n) fun _ => balanced_mods _ fun _ => rfl
  rcidOp' := balanced_rcidOp
  rcidField' :=
    balanced_bind (balanced_reads _) fun _ => balanced_bind balanced_rcidOp fun _ =>
      balanced_bind (balanced_mods _ fun _ => rfl) fun _ => balanced_reads _
  sampleAlt' := by
    intro s a t h
    rcases sampleAlt_cases s with ⟨b, l, _, e⟩ | ⟨_, e⟩ <;> rw [e] at h <;> cases h
    · rfl
    · rfl
  calc16' := balanced_calc16
  calc32' := balanced_calc32
  hookRead' := fun _ _ w _ =>
    balanced_bind (balanced_reads _) fun _ => balanced_bind (balanced_readBits w) fun _ =>
      balanced_bind (balanced_emitHook _ _ _ _ _) fun _ => balanced_reads _
  hookTwo' := fun _ _ b _ =>
    balanced_bind (balanced_reads _) fun _ =>
      balanced_bind (balanced_bind (balanced_readBits 32) fun _ => balanced_bind (balanced_readBits b) fun _ =>
        balanced_reads _) fun _ => balanced_bind (balanced_emitHook _ _ _ _ _) fun _ => balanced_reads _
  hookSkip' := fun _ _ n _ =>
    balanced_bind (balanced_reads _) fun _ => balanced_bind (balanced_moveBits n) fun _ =>
      balanced_bind (balanced_emitHook _ _ _ _ _) fun _ => balanced_reads _
  hookEmit' := by
    intro id k o n b s a t h
    unfold hookEmit at h
    split at h <;> cases h
    rfl
  stcZone' := fun _ _ => balanced_mods _ fun _ => rfl
  incCid' := fun _ => balanced_mods _ fun _ => rfl
  nLayer' := fun _ => balanced_mods _ fun _ => rfl
  bracket' := fun n _ ha => balanced_bracket n ha
  bracketed' := fun n _ hx => balanced_bracketed n hx
  harqMode' := fun _ => balanced_mods _ fun _ => rfl
  cidType' := fun _ => balanced_mods _ fun _ => rfl
  format' := fun _ _ => balanced_mods _ fun _ => rfl
  msgStart' := balanced_mods _ fun _ => rfl

/-- The header of a message, with its limit, leaves one limit more. -/
theorem headerAndLimit_limstk {k : MsgKind} {d : Dir} {s t : State} {m : Header}
    (h : headerAndLimit k d s = .ok m t) : ∃ b, t.limstk = b :: s.limstk := by
  simp only [headerAndLimit, getS_bind] at h
  split at h
  · obtain ⟨_, u, h1, h2⟩ := bind_eq_ok h
    rcases pushLimit_cases s.inp.msgLenBits s with ⟨e, _, _⟩ | e | e <;> rw [e] at h1 <;> cases h1
    exact ⟨_, balanced_closed.msgHeader' k d _ _ _ h2⟩
  · obtain ⟨m', u, h1, h2⟩ := bind_eq_ok h
    obtain ⟨_, v, h3, h4⟩ := bind_eq_ok h2
    rcases pushLimit_cases m'.ieBits u with ⟨e, _, _⟩ | e | e <;> rw [e] at h3 <;> cases h3
    cases h4
    exact ⟨_, by rw [State.setLimstk_limstk, balanced_closed.msgHeader' k d _ _ _ h1]⟩

/-- A segment is balanced. -/
theorem balanced_segmentBody (k : MsgKind) : Balanced (segmentBody k) := by
  intro s a t h
  simp only [segmentBody, getS_bind, setSeq_bind] at h
  obtain ⟨m, s1, h1, h2⟩ := bind_eq_ok h
  obtain ⟨b, hb⟩ := headerAndLimit_limstk h1
  rw [getS_bind] at h2
  obtain ⟨_, s2, h3, h4⟩ := bind_eq_ok h2
  have h5 := balanced_closed.ieLoop' _ _ _ _ _ _ _ h3
  obtain ⟨_, s3, h6, h7⟩ := bind_eq_ok h4
  rcases popLimit_cases s2 with ⟨b', l, hl, e⟩ | ⟨_, e⟩ <;> rw [e] at h6 <;> cases h6
  rw [hl, hb, State.setSeq_limstk] at h5
  have h8 : Balanced (do setSeq .msgPad; padByte; setSeq .msgCrc; whenD m.trailer (msgTrailer k); pure m) :=
    have c := balanced_closed
    c.bind' (c.setSeq' _) fun _ => c.bind' c.padByte' fun _ => c.bind' (c.setSeq' _) fun _ =>
      c.bind' (c.whenD' _ (c.msgTrailer' k)) fun _ => c.pure' m
  rw [h8 _ _ _ h7, State.setLimstk_limstk]
  exact (List.cons.inj h5).2

theorem balanced_segment (k : MsgKind) : Balanced (segment k) :=
  have c := balanced_closed
  balanced_bind (balanced_segmentBody k) fun _ => c.whenD' _ <|
    balanced_bind c.msgStart' fun _ => balanced_bind (balanced_segmentBody .compactUlMap) fun _ => c.pure' ()

end Sys2Proof.Machine
end

