-- ==== Sys2Proof/Laws/Decode.lean ====
section
/-! SUPPORT. The parts of a command word, and what one word decodes to (30_encoding.md R91, R111). -/

namespace Sys2Proof

theorem cmdOp_cmdWord (op : BitVec 4) (arg : BitVec 32) : cmdOp (cmdWord op arg) = op := by
  simp only [cmdOp, cmdWord]
  exact BitVec.extractLsb'_append_eq_left

theorem cmdArg_cmdWord (op : BitVec 4) (arg : BitVec 32) : cmdArg (cmdWord op arg) = arg := by
  simp only [cmdArg, cmdWord]
  exact BitVec.extractLsb'_append_eq_right

theorem read_high (w : BitVec 6) : (w.setWidth 32).extractLsb' 6 26 = 0 := by
  ext k hk
  simp only [BitVec.getElem_extractLsb', BitVec.getLsbD_setWidth]
  simp

theorem read_low (w : BitVec 6) : (w.setWidth 32).extractLsb' 0 6 = w := by
  ext k hk
  simp only [BitVec.getElem_extractLsb', BitVec.getLsbD_setWidth, Nat.zero_add]
  simp [BitVec.getLsbD_eq_getElem hk, show k < 32 by omega]

theorem decodeCmd_read (w : BitVec 6) : decodeCmd (cmdWord 0x1 (w.setWidth 32)) = .ok (.read w) := by
  simp [decodeCmd, cmdOp_cmdWord, cmdArg_cmdWord, decodeRead, read_high, read_low]

theorem pseudoOne_read (w : BitVec 6) :
    pseudoOne (.read w) = if w.toNat % 4 = 0 then .ok (.readn (w.toNat / 4)) else .error .notAPseudo := rfl

theorem pseudoOne_skip (w : BitVec 32) :
    pseudoOne (.skip w) = if w.toNat % 4 = 0 then .ok (.skipn (w.toNat / 4)) else .error .notAPseudo := rfl

theorem pseudoOne_rem : pseudoOne .rem = .ok .remn := rfl

theorem pseudoTwo_read (a b : BitVec 6) :
    pseudoTwo (.read a) (.read b) =
      if a = 32 ∧ b = 16 then .ok .rd48 else if a = 32 ∧ b = 32 then .ok .rd64 else .error .notAPseudo := rfl

theorem decodePseudo_one (c : CmdWord) (i : Instr) (d : decodeCmd c = .ok i) : decodePseudo [c] = pseudoOne i := by
  simp only [decodePseudo, decodeAll, d]
  rfl

theorem decodePseudo_two (c e : CmdWord) (i j : Instr) (d : decodeCmd c = .ok i) (f : decodeCmd e = .ok j) :
    decodePseudo [c, e] = pseudoTwo i j := by
  simp only [decodePseudo, decodeAll, d, f]
  rfl

theorem decodePseudo_read (w : BitVec 6) (h : w.toNat % 4 = 0) :
    decodePseudo [cmdWord 0x1 (w.setWidth 32)] = .ok (.readn (w.toNat / 4)) := by
  rw [decodePseudo_one _ _ (decodeCmd_read w), pseudoOne_read, if_pos h]

theorem decodePseudo_skip (w : BitVec 32) (h : w.toNat % 4 = 0) :
    decodePseudo [cmdWord 0x2 w] = .ok (.skipn (w.toNat / 4)) := by
  have d : decodeCmd (cmdWord 0x2 w) = .ok (.skip w) := by
    simp [decodeCmd, cmdOp_cmdWord, cmdArg_cmdWord]
  rw [decodePseudo_one _ _ d, pseudoOne_skip, if_pos h]

end Sys2Proof
end

