-- ==== Sys2Proof/Laws/Exec.lean ====
section
/-! SUPPORT. What an instruction can do, said once: if `exec` answers a next state, one of the shapes of
`ExecShape` holds, and what happened in between is a chain of atomic moves (Rel.lean). -/

namespace Sys2Proof.Machine

variable {W : (α : Type) → D α → Prop}

namespace Closed

variable (h : Closed W)
include h

theorem rcidNormal16' : W _ rcidNormal16 := h.bind' (h.readBits' 16) fun _ => h.pure' _
theorem rcidPrefixed' (n : Nat) : W _ (rcidPrefixed n) :=
  h.bind' (h.readBits' 1) fun _ => h.bind' (h.readBits' n) fun _ => h.pure' _

theorem regularRow' (d : Dir) (f : Family) : W _ (regularRow d f) :=
  h.bind' h.typeField' fun _ => h.regular' d f

theorem unassignedRow' (d : Dir) (f : Family) : W _ (unassignedRow d f) :=
  h.bind' h.getPos' fun o => h.bind' h.typeField' fun t => h.unassigned' d f t o

theorem extendedRow' (d : Dir) : W _ (extendedRow d) :=
  h.bind' h.getPos' fun o => h.bind' h.typeField' fun _ => h.extended' d o

theorem extended2Row' (d : Dir) : W _ (extended2Row d) :=
  h.bind' h.getPos' fun o => h.bind' h.typeField' fun _ => h.extended2' d o

theorem level1Row' (d : Dir) {arm : Nat → Nat → Nat → D Unit} (ha : ∀ o a n, W _ (arm o a n)) :
    W _ (level1Row d arm) :=
  h.bind' h.getPos' fun o => h.bind' h.typeField' fun _ => h.extendedWith' _ _ (ha o)

theorem level2Row' (d : Dir) {arm : Nat → Nat → Nat → D Unit} (ha : ∀ o a n, W _ (arm o a n)) :
    W _ (level2Row d arm) :=
  h.bind' h.getPos' fun o => h.bind' h.typeField' fun _ => h.extendedWith' _ _ (ha o)

theorem level1Plain' (d : Dir) (id : HookId) (hid : ∀ v, W _ (hookWriteCidType id v)) :
    W _ (level1Row d fun _ _ _ => bodyArm (plainBody topCall d id)) :=
  h.level1Row' d fun _ _ _ => h.bodyArm' (h.plainBody' h.topCall' d id hid)

theorem level2Plain' (d : Dir) (id : HookId) (hid : ∀ v, W _ (hookWriteCidType id v)) :
    W _ (level2Row d fun _ _ _ => bodyArm (plainBody topCall d id)) :=
  h.level2Row' d fun _ _ _ => h.bodyArm' (h.plainBody' h.topCall' d id hid)

theorem level1Skip' (d : Dir) : W _ (level1Row d fun _ _ n => skipArm (skipUnimplemented n)) :=
  h.level1Row' d fun _ _ n => h.skipArm' (h.skipUnimplemented' n)

theorem level2Skip' (d : Dir) : W _ (level2Row d fun _ _ n => skipArm (skipUnimplemented n)) :=
  h.level2Row' d fun _ _ n => h.skipArm' (h.skipUnimplemented' n)

theorem level1Unknown' (d : Dir) : W _ (level1Row d fun o sub n => skipArm (skipUnknown sub n o)) :=
  h.level1Row' d fun o sub n => h.skipArm' (h.skipUnknown' sub n o)

theorem level2Unknown' (d : Dir) : W _ (level2Row d fun o sub n => skipArm (skipUnknown sub n o)) :=
  h.level2Row' d fun o sub n => h.skipArm' (h.skipUnknown' sub n o)

theorem sbModeRow' (d : Dir) (l : Option Layout) : W _ (sbModeRow d l) :=
  h.bind' (h.setSeq' _) fun _ => h.containerFromMode' h.topCall' d fun _ => h.pure' l

end Closed

/-- A chain of atomic moves: every relation that holds of each of them holds from one end to the other. -/
def Chain (s t : State) : Prop := ∀ R : State → State → Prop, Moves R (fun s _ t => R s t) → R s t

/-- A chain in which the moves of the Compact family and of messages may also occur. -/
def ChainAll (s t : State) : Prop := ∀ R : State → State → Prop, MovesAll R (fun s _ t => R s t) → R s t

theorem Chain.toAll {s t : State} (h : Chain s t) : ChainAll s t := fun R hR => h R hR.toMoves

/-- The shapes of an instruction that answers a next state. -/
inductive ExecShape (i : Instr) (s t : State) : Prop
  /-- A command of the cursor, RCID or checksum group, or a row of theirs. -/
  | unit (kind : isUnitOp i = true) (u : State) (r : Response) (chain : Chain s u) (ends : t = u.setResult r)
  /-- INIT. -/
  | init (p : BitVec 32) (kind : i = .init p) (inside : p.toNat ≤ 8 * s.inp.len)
    (ends : t = (s.initCall p.toNat).setResult .done)
  /-- A legacy IE, or a row decoded as one. -/
  | ie (kind : isLegacyIe i = true) (b u : State) (starts : b = s.startIe ∨ ∃ d f, b = s.startIe.setRoute d f)
    (chain : Chain b u) (ends : t = u.finish ∨ ∃ e p, t = u.stop e p)
  /-- A Compact IE. -/
  | compact (kind : isCompactIe i = true) (b u : State)
    (starts : b = s.startIe ∨ ∃ d f, b = s.startIe.setRoute d f) (chain : ChainAll b u)
    (ends : t = u.finish ∨ ∃ e p, t = u.stop e p)
  /-- A message. -/
  | msg (k : MsgKind) (kind : msgKindOf i = some k) (u : State) (inside : s.inp.start ≤ 8 * s.inp.len)
    (chain : ChainAll ((s.initCall s.inp.start).enterMsg k) u) (ends : t = u.finish ∨ ∃ e p, t = u.stop e p)

/-- A unit operation whose sub-step is a chain. -/
theorem unitOp_chain {i : Instr} {x : D Response} {s t : State} (h : unitOp x s = .next t)
    (hi : isUnitOp i = true) (hx : ∀ R, Moves R (fun s _ t => R s t) → WithinStates R x) :
    ExecShape i s t := by
  rcases unitOp_eq_next h with ⟨r, u, e, ht⟩ | ⟨e', p, u, e, ht⟩
  · exact .unit hi u r (fun R hR => by simpa [e] using (hx R hR).ends s) ht
  · exact .unit hi u _ (fun R hR => by simpa [e] using (hx R hR).ends s) ht

/-- A unit operation made of the atoms. -/
theorem unitOp_shape {i : Instr} {x : D Response} {s t : State} (h : unitOp x s = .next t) (hi : isUnitOp i = true)
    (hx : ∀ W, Closed W → W _ x) : ExecShape i s t :=
  unitOp_chain h hi fun _ hR => hx _ hR.closed

theorem checkCqich_ok {s : State} {a : Unit} {t : State} (h : checkCqich s = .ok a t) :
    t = s ∧ s.inp.cqichIdWidth.toNat ≤ 9 := by
  unfold checkCqich at h
  split at h <;> simp_all [Config.cqichIdWidthMax]

theorem checkCqich_run {s : State} (h : s.inp.cqichIdWidth.toNat ≤ 9) : checkCqich s = .ok () s := by
  unfold checkCqich
  rw [if_neg (by simp [Config.cqichIdWidthMax]; omega)]

/-- An IE operation is its body from the started state, where the inputs are legal. -/
theorem ieOp_eq {body : D Unit} {s : State} (h : s.inp.cqichIdWidth.toNat ≤ 9) :
    ieOp body s = callOp body s.startIe := by
  simp only [ieOp, callOp]
  rw [bind_of_ok (checkCqich_run h), modS_bind]

theorem ieOp_badConfig {body : D Unit} {s : State} (h : 9 < s.inp.cqichIdWidth.toNat) :
    ieOp body s = .refused .badConfig := by
  refine callOp_of_refused (t := s) (bind_of_error ?_)
  unfold checkCqich
  rw [if_pos (by simpa [Config.cqichIdWidthMax] using h)]

theorem ieOp_next_legal {body : D Unit} {s t : State} (h : ieOp body s = .next t) :
    s.inp.cqichIdWidth.toNat ≤ 9 := by
  by_contra hc
  rw [ieOp_badConfig (by omega)] at h
  cases h

/-- A legacy IE operation whose body is made of the atoms. -/
theorem ieOp_shape {i : Instr} {x : D Unit} {s t : State} (h : ieOp x s = .next t) (hi : isLegacyIe i = true)
    (hx : ∀ W, Closed W → W _ x) : ExecShape i s t := by
  rw [ieOp_eq (ieOp_next_legal h)] at h
  have chain : ∀ R, Moves R (fun s _ t => R s t) → R s.startIe (endState (x s.startIe)) := fun R hR =>
    Within.ends (hx _ hR.closed) s.startIe
  rcases callOp_eq_next h with ⟨u, e, ht⟩ | ⟨e', p, u, e, ht⟩ <;> rw [e] at chain
  · exact .ie hi s.startIe u (.inl rfl) chain (.inl ht)
  · exact .ie hi s.startIe u (.inl rfl) chain (.inr ⟨_, _, ht⟩)

/-- A Compact IE operation whose body is made of the atoms. -/
theorem compactOp_shape {i : Instr} {x : D Unit} {s t : State} (h : ieOp x s = .next t) (hi : isCompactIe i = true)
    (hx : ∀ W, ClosedAll W → W _ x) : ExecShape i s t := by
  rw [ieOp_eq (ieOp_next_legal h)] at h
  have chain : ∀ R, MovesAll R (fun s _ t => R s t) → R s.startIe (endState (x s.startIe)) := fun R hR =>
    Within.ends (hx _ hR.closedAll) s.startIe
  rcases callOp_eq_next h with ⟨u, e, ht⟩ | ⟨e', p, u, e, ht⟩ <;> rw [e] at chain
  · exact .compact hi s.startIe u (.inl rfl) chain (.inl ht)
  · exact .compact hi s.startIe u (.inl rfl) chain (.inr ⟨_, _, ht⟩)

/-- A check of the Compact map that answered changed nothing. -/
theorem checkCompact_ok {s : State} {f : Family} {a : Unit} {t : State} (h : checkCompact f s = .ok a t) :
    t = s ∧ (f = .compact → s.cfg.compactMap.isSome) := by
  cases f <;> cases hm : s.cfg.compactMap <;> simp [checkCompact, hm] at h <;> simp [h]

/-- A check of the Compact map that stopped refused the operation. -/
theorem checkCompact_error {s t : State} {f : Family} {e : Stop} (h : checkCompact f s = .error e t) :
    e = .refused .noCompactMap := by
  cases f <;> cases hm : s.cfg.compactMap <;> simp [checkCompact, hm] at h
  exact h.1.symm

theorem checkCompact_legacy (s : State) : checkCompact .legacy s = .ok () s := rfl

theorem checkCompact_run {s : State} {f : Family} (h : f = .compact → s.cfg.compactMap.isSome) :
    checkCompact f s = .ok () s := by
  cases f <;> cases hm : s.cfg.compactMap <;> simp_all [checkCompact]

/-- Where an IE command answers a next state, it is DecodeIE from the started state. -/
theorem ieCommand_started {d : Dir} {f : Family} {s t : State} (h : ieCommand d f s = .next t) :
    callOp (decodeIe d f) (s.startIe.setRoute d f) = .next t := by
  unfold ieCommand at h
  rw [ieOp_eq (ieOp_next_legal h)] at h
  cases hc : checkCompact f s.startIe with
  | error e u =>
    simp only [callOp] at h
    rw [bind_of_error hc] at h
    rw [checkCompact_error hc] at h
    cases h
  | ok a u =>
    obtain ⟨rfl, -⟩ := checkCompact_ok hc
    simp only [callOp] at h ⊢
    rw [bind_of_ok hc, modS_bind] at h
    exact h

/-- A legacy IE command. -/
theorem ieCommand_shape {i : Instr} {d : Dir} {s t : State} (h : ieCommand d .legacy s = .next t)
    (hi : isLegacyIe i = true) : ExecShape i s t := by
  have chain : ∀ R, Moves R (fun s _ t => R s t) →
      R (s.startIe.setRoute d .legacy) (endState (decodeIe d .legacy (s.startIe.setRoute d .legacy))) := fun R hR =>
    Within.ends (hR.closed.decodeLegacyIe' d) _
  rcases callOp_eq_next (ieCommand_started h) with ⟨v, e, ht⟩ | ⟨e', p, v, e, ht⟩ <;> rw [e] at chain
  · exact .ie hi _ v (.inr ⟨d, _, rfl⟩) chain (.inl ht)
  · exact .ie hi _ v (.inr ⟨d, _, rfl⟩) chain (.inr ⟨_, _, ht⟩)

/-- A Compact IE command. -/
theorem compactCommand_shape {i : Instr} {d : Dir} {s t : State} (h : ieCommand d .compact s = .next t)
    (hi : isCompactIe i = true) : ExecShape i s t := by
  have chain : ∀ R, MovesAll R (fun s _ t => R s t) →
      R (s.startIe.setRoute d .compact) (endState (decodeIe d .compact (s.startIe.setRoute d .compact))) := fun R hR =>
    Within.ends (hR.closedAll.decodeIe' d .compact) _
  rcases callOp_eq_next (ieCommand_started h) with ⟨v, e, ht⟩ | ⟨e', p, v, e, ht⟩ <;> rw [e] at chain
  · exact .compact hi _ v (.inr ⟨d, _, rfl⟩) chain (.inl ht)
  · exact .compact hi _ v (.inr ⟨d, _, rfl⟩) chain (.inr ⟨_, _, ht⟩)

/-- Where a message answers a next state, it is its segment from the entered state. -/
theorem msgCommand_entered {k : MsgKind} {s t : State} (h : msgCommand k s = .next t) :
    s.inp.start ≤ 8 * s.inp.len ∧
      callOp (segment k) ((s.initCall s.inp.start).enterMsg k) = .next t := by
  simp only [msgCommand, callOp] at h
  cases h1 : checkCqich s with
  | error e u =>
    rw [bind_of_error h1] at h
    unfold checkCqich at h1
    split at h1 <;> cases h1
    cases h
  | ok a u =>
    obtain ⟨rfl, -⟩ := checkCqich_ok h1
    rw [bind_of_ok h1] at h
    rcases initCursor_cases u.inp.start u with ⟨hp, e⟩ | e
    · rw [bind_of_ok e] at h
      cases h2 : checkCompact (kindArgs u.cfg k).2 (u.initCall u.inp.start) with
      | error e' v =>
        rw [bind_of_error h2, checkCompact_error h2] at h
        cases h
      | ok b v =>
        obtain ⟨rfl, -⟩ := checkCompact_ok h2
        rw [bind_of_ok h2, modS_bind] at h
        exact ⟨hp, h⟩
    · rw [bind_of_error e] at h
      cases h

theorem msgCommand_shape {i : Instr} {k : MsgKind} {s t : State} (h : msgCommand k s = .next t)
    (hi : msgKindOf i = some k) : ExecShape i s t := by
  obtain ⟨hp, hs⟩ := msgCommand_entered h
  have chain : ∀ R, MovesAll R (fun s _ t => R s t) →
      R ((s.initCall s.inp.start).enterMsg k) (endState (segment k ((s.initCall s.inp.start).enterMsg k))) :=
    fun R hR => Within.ends (hR.segment' k) _
  rcases callOp_eq_next hs with ⟨u, e, ht⟩ | ⟨e', p, u, e, ht⟩ <;> rw [e] at chain
  · exact .msg k hi u hp chain (.inl ht)
  · exact .msg k hi u hp chain (.inr ⟨_, _, ht⟩)

/-- The inversion of the machine: every instruction that answers a next state has one of these shapes. -/
theorem exec_shape {i : Instr} {s t : State} (h : exec i s = .next t) : ExecShape i s t := by
  cases i
  case init p =>
    simp only [exec, execInit] at h
    rcases initCursor_cases p.toNat s with ⟨hp, e⟩ | e
    · rw [unitOp_of_ok ((bind_of_ok e).trans (pure_run _ _))] at h
      exact .init p rfl hp (by simpa using h.symm)
    · rw [unitOp_of_refused (bind_of_error e)] at h
      cases h
  case read => exact unitOp_shape h rfl fun _ hW => hW.bind' (hW.readBits' _) fun _ => hW.pure' _
  case skip => exact unitOp_shape h rfl fun _ hW => hW.bind' (hW.moveBits' _) fun _ => hW.pure' _
  case padn => exact unitOp_shape h rfl fun _ hW => hW.bind' hW.padNibble' fun _ => hW.pure' _
  case padb => exact unitOp_shape h rfl fun _ hW => hW.bind' hW.padByte' fun _ => hW.pure' _
  case rem =>
    rw [exec, execRem] at h
    exact unitOp_shape h rfl fun _ hW => hW.bind' hW.getS' fun _ => hW.pure' _
  case pushlim => exact unitOp_chain h rfl fun _ hR => hR.bind' (hR.pushLimit' _) fun _ => hR.pure' _
  case poplim => exact unitOp_chain h rfl fun _ hR => hR.bind' hR.popLimit' fun _ => hR.pure' _
  case rcid => exact unitOp_shape h rfl fun _ hW => hW.bind' hW.rcidOp' fun _ => hW.pure' _
  case crc16 => exact unitOp_shape h rfl fun _ hW => hW.bind' hW.calc16' fun _ => hW.pure' _
  case crc32 => exact unitOp_shape h rfl fun _ hW => hW.bind' hW.calc32' fun _ => hW.pure' _
  case verify16 => exact unitOp_shape h rfl fun _ hW => hW.bind' hW.verify16Op' fun _ => hW.pure' _
  case verify32 => exact unitOp_shape h rfl fun _ hW => hW.bind' hW.verify32Op' fun _ => hW.pure' _
  case trailer16 => exact unitOp_shape h rfl fun _ hW => hW.bind' hW.verify16Op' fun _ => hW.pure' _
  case trailer32 => exact unitOp_shape h rfl fun _ hW => hW.bind' hW.verify32Op' fun _ => hW.pure' _
  case ieDlLegacy => exact ieCommand_shape h rfl
  case ieUlLegacy => exact ieCommand_shape h rfl
  case ieDlCompact => exact compactCommand_shape h rfl
  case ieUlCompact => exact compactCommand_shape h rfl
  case msgDlMap => exact msgCommand_shape h rfl
  case msgUlMap => exact msgCommand_shape h rfl
  case msgCompactDlMap => exact msgCommand_shape h rfl
  case msgCompactUlMap => exact msgCommand_shape h rfl
  case msgRaasPrivateMap => exact msgCommand_shape h rfl
  case msgReservedKind5 => cases h
  case msgReservedKind6 => cases h
  case msgReservedKind7 => cases h
  case reserved => cases h
  case rcidN16 => exact unitOp_shape h rfl fun _ hW => hW.bind' hW.rcidNormal16' fun _ => hW.pure' _
  case rcidP1 => exact unitOp_shape h rfl fun _ hW => hW.bind' (hW.rcidPrefixed' _) fun _ => hW.pure' _
  case rcidP0_11 => exact unitOp_shape h rfl fun _ hW => hW.bind' (hW.rcidPrefixed' _) fun _ => hW.pure' _
  case rcidP0_7 => exact unitOp_shape h rfl fun _ hW => hW.bind' (hW.rcidPrefixed' _) fun _ => hW.pure' _
  case rcidP0_3 => exact unitOp_shape h rfl fun _ hW => hW.bind' (hW.rcidPrefixed' _) fun _ => hW.pure' _
  case rd48 => exact unitOp_shape h rfl fun _ hW => hW.bind' (hW.readTwo' _ _) fun _ => hW.pure' _
  case rd64 => exact unitOp_shape h rfl fun _ hW => hW.bind' (hW.readTwo' _ _) fun _ => hW.pure' _
  case readn => exact unitOp_shape h rfl fun _ hW => hW.bind' (hW.readBits' _) fun _ => hW.pure' _
  case skipn => exact unitOp_shape h rfl fun _ hW => hW.bind' (hW.moveBits' _) fun _ => hW.pure' _
  case remn =>
    rw [exec, execRemn] at h
    exact unitOp_shape h rfl fun _ hW => hW.bind' hW.getS' fun _ => hW.pure' _
  case regType0 =>
    rw [exec, execRegType0] at h
    exact ieOp_shape h rfl fun _ hW => hW.regularRow' _ _
  case regType1 =>
    rw [exec, execRegType1] at h
    exact ieOp_shape h rfl fun _ hW => hW.regularRow' _ _
  case regType2 =>
    rw [exec, execRegType2] at h
    exact ieOp_shape h rfl fun _ hW => hW.regularRow' _ _
  case regType3 =>
    rw [exec, execRegType3] at h
    exact ieOp_shape h rfl fun _ hW => hW.regularRow' _ _
  case regType4 =>
    rw [exec, execRegType4] at h
    exact ieOp_shape h rfl fun _ hW => hW.regularRow' _ _
  case regType5 =>
    rw [exec, execRegType5] at h
    exact ieOp_shape h rfl fun _ hW => hW.regularRow' _ _
  case regType6 =>
    rw [exec, execRegType6] at h
    exact ieOp_shape h rfl fun _ hW => hW.regularRow' _ _
  case regType7 =>
    rw [exec, execRegType7] at h
    exact ieOp_shape h rfl fun _ hW => hW.regularRow' _ _
  case regType8 =>
    rw [exec, execRegType8] at h
    exact ieOp_shape h rfl fun _ hW => hW.regularRow' _ _
  case regType9 =>
    rw [exec, execRegType9] at h
    exact ieOp_shape h rfl fun _ hW => hW.regularRow' _ _
  case regType10 =>
    rw [exec, execRegType10] at h
    exact ieOp_shape h rfl fun _ hW => hW.regularRow' _ _
  case l0Unassigned11 =>
    rw [exec, execL0Unassigned11] at h
    exact ieOp_shape h rfl fun _ hW => hW.unassignedRow' _ _
  case l0Unassigned12 =>
    rw [exec, execL0Unassigned12] at h
    exact ieOp_shape h rfl fun _ hW => hW.unassignedRow' _ _
  case gapPapr =>
    rw [exec, execGapPapr] at h
    exact ieOp_shape h rfl fun _ hW => hW.regularRow' _ _
  case extended2 =>
    rw [exec, execExtended2] at h
    exact ieOp_shape h rfl fun _ hW => hW.extended2Row' _
  case extended =>
    rw [exec, execExtended] at h
    exact ieOp_shape h rfl fun _ hW => hW.extendedRow' _
  case extendedUplink =>
    rw [exec, execExtendedUplink] at h
    exact ieOp_shape h rfl fun _ hW => hW.extendedRow' _
  case channelMeasurement =>
    rw [exec, execChannelMeasurement] at h
    exact ieOp_shape h rfl fun _ hW => hW.level1Plain' _ _ fun _ => hW.refuse' _
  case stcZone =>
    rw [exec, execStcZone] at h
    exact ieOp_shape h rfl fun _ hW => hW.level1Row' _ fun _ _ _ => hW.bodyArm' (hW.ruleStcZone' hW.topCall' _)
  case aas =>
    rw [exec, execAas] at h
    exact ieOp_shape h rfl fun _ hW => hW.level1Plain' _ _ fun _ => hW.refuse' _
  case dataLocationOtherBs =>
    rw [exec, execDataLocationOtherBs] at h
    exact ieOp_shape h rfl fun _ hW => hW.level1Plain' _ _ fun _ => hW.refuse' _
  case cidSwitch =>
    rw [exec, execCidSwitch] at h
    exact ieOp_shape h rfl fun _ hW => hW.level1Row' _ fun _ _ _ => hW.bodyArm' hW.ruleCidSwitch'
  case mimoBasic =>
    rw [exec, execMimoBasic] at h
    exact ieOp_shape h rfl fun _ hW => hW.level1Skip' _
  case mimoEnhanced =>
    rw [exec, execMimoEnhanced] at h
    exact ieOp_shape h rfl fun _ hW => hW.level1Skip' _
  case harqMapPointer =>
    rw [exec, execHarqMapPointer] at h
    exact ieOp_shape h rfl fun _ hW => hW.level1Plain' _ _ fun _ => hW.refuse' _
  case phyModifier =>
    rw [exec, execPhyModifier] at h
    exact ieOp_shape h rfl fun _ hW => hW.level1Plain' _ _ fun _ => hW.refuse' _
  case unknownL1Code9 =>
    rw [exec, execUnknownL1Code9] at h
    exact ieOp_shape h rfl fun _ hW => hW.level1Unknown' _
  case broadcastControlPointer =>
    rw [exec, execBroadcastControlPointer] at h
    exact ieOp_shape h rfl fun _ hW => hW.level1Plain' _ _ fun _ => hW.refuse' _
  case puscBurstOtherSegment =>
    rw [exec, execPuscBurstOtherSegment] at h
    exact ieOp_shape h rfl fun _ hW => hW.level1Plain' _ _ fun _ => hW.refuse' _
  case unknownL1Code12 =>
    rw [exec, execUnknownL1Code12] at h
    exact ieOp_shape h rfl fun _ hW => hW.level1Unknown' _
  case unknownL1Code13 =>
    rw [exec, execUnknownL1Code13] at h
    exact ieOp_shape h rfl fun _ hW => hW.level1Unknown' _
  case unknownL1Code14 =>
    rw [exec, execUnknownL1Code14] at h
    exact ieOp_shape h rfl fun _ hW => hW.level1Unknown' _
  case interferenceNoiseLevel =>
    rw [exec, execInterferenceNoiseLevel] at h
    exact ieOp_shape h rfl fun _ hW => hW.level1Plain' _ _ fun _ => hW.refuse' _
  case mbsMap =>
    rw [exec, execMbsMap] at h
    exact ieOp_shape h rfl fun _ hW => hW.level2Plain' _ _ fun _ => hW.refuse' _
  case handoverVariant1 =>
    rw [exec, execHandoverVariant1] at h
    exact ieOp_shape h rfl fun _ hW => hW.level2Skip' _
  case handoverVariant2 =>
    rw [exec, execHandoverVariant2] at h
    exact ieOp_shape h rfl fun _ hW => hW.level2Skip' _
  case handoverVariant3 =>
    rw [exec, execHandoverVariant3] at h
    exact ieOp_shape h rfl fun _ hW => hW.level2Skip' _
  case unknownL2Code4 =>
    rw [exec, execUnknownL2Code4] at h
    exact ieOp_shape h rfl fun _ hW => hW.level2Unknown' _
  case unknownL2Code5 =>
    rw [exec, execUnknownL2Code5] at h
    exact ieOp_shape h rfl fun _ hW => hW.level2Unknown' _
  case skipIe =>
    rw [exec, execSkipIe] at h
    exact ieOp_shape h rfl fun _ hW => hW.level2Plain' _ _ fun _ => hW.refuse' _
  case harqMap =>
    rw [exec, execHarqMap] at h
    exact ieOp_shape h rfl fun _ hW => hW.level2Row' _ fun _ _ _ => hW.bodyArm' (hW.container' hW.topCall' _)
  case harqAckBitmap =>
    rw [exec, execHarqAckBitmap] at h
    exact ieOp_shape h rfl fun _ hW => hW.level2Plain' _ _ fun _ => hW.refuse' _
  case enhancedDlMap =>
    rw [exec, execEnhancedDlMap] at h
    exact ieOp_shape h rfl fun _ hW => hW.level2Plain' _ _ fun _ => hW.refuse' _
  case unknownL2Code10 =>
    rw [exec, execUnknownL2Code10] at h
    exact ieOp_shape h rfl fun _ hW => hW.level2Unknown' _
  case unknownL2Code11 =>
    rw [exec, execUnknownL2Code11] at h
    exact ieOp_shape h rfl fun _ hW => hW.level2Unknown' _
  case unknownL2Code12 =>
    rw [exec, execUnknownL2Code12] at h
    exact ieOp_shape h rfl fun _ hW => hW.level2Unknown' _
  case unknownL2Code13 =>
    rw [exec, execUnknownL2Code13] at h
    exact ieOp_shape h rfl fun _ hW => hW.level2Unknown' _
  case aasSdma =>
    rw [exec, execAasSdma] at h
    exact ieOp_shape h rfl fun _ hW => hW.level2Plain' _ _ fun _ => hW.refuse' _
  case unknownL2Code15 =>
    rw [exec, execUnknownL2Code15] at h
    exact ieOp_shape h rfl fun _ hW => hW.level2Unknown' _
  case sbChase =>
    rw [exec, execSbChase] at h
    exact ieOp_shape h rfl fun _ hW => hW.sbModeRow' _ _
  case sbIrCtc =>
    rw [exec, execSbIrCtc] at h
    exact ieOp_shape h rfl fun _ hW => hW.sbModeRow' _ _
  case sbIrCc =>
    rw [exec, execSbIrCc] at h
    exact ieOp_shape h rfl fun _ hW => hW.sbModeRow' _ _
  case sbMimoChase =>
    rw [exec, execSbMimoChase] at h
    exact ieOp_shape h rfl fun _ hW => hW.sbModeRow' _ _
  case sbMimoIr =>
    rw [exec, execSbMimoIr] at h
    exact ieOp_shape h rfl fun _ hW => hW.sbModeRow' _ _
  case sbMimoIrCc =>
    rw [exec, execSbMimoIrCc] at h
    exact ieOp_shape h rfl fun _ hW => hW.sbModeRow' _ _
  case sbMimoStc =>
    rw [exec, execSbMimoStc] at h
    exact ieOp_shape h rfl fun _ hW => hW.sbModeRow' _ _
  case unknownSbMode7 =>
    rw [exec, execUnknownSbMode7] at h
    exact ieOp_shape h rfl fun _ hW => hW.sbModeRow' _ _
  case unknownSbMode8 =>
    rw [exec, execUnknownSbMode8] at h
    exact ieOp_shape h rfl fun _ hW => hW.sbModeRow' _ _
  case unknownSbMode9 =>
    rw [exec, execUnknownSbMode9] at h
    exact ieOp_shape h rfl fun _ hW => hW.sbModeRow' _ _
  case unknownSbMode10 =>
    rw [exec, execUnknownSbMode10] at h
    exact ieOp_shape h rfl fun _ hW => hW.sbModeRow' _ _
  case unknownSbMode11 =>
    rw [exec, execUnknownSbMode11] at h
    exact ieOp_shape h rfl fun _ hW => hW.sbModeRow' _ _
  case unknownSbMode12 =>
    rw [exec, execUnknownSbMode12] at h
    exact ieOp_shape h rfl fun _ hW => hW.sbModeRow' _ _
  case unknownSbMode13 =>
    rw [exec, execUnknownSbMode13] at h
    exact ieOp_shape h rfl fun _ hW => hW.sbModeRow' _ _
  case unknownSbMode14 =>
    rw [exec, execUnknownSbMode14] at h
    exact ieOp_shape h rfl fun _ hW => hW.sbModeRow' _ _
  case unknownSbMode15 =>
    rw [exec, execUnknownSbMode15] at h
    exact ieOp_shape h rfl fun _ hW => hW.sbModeRow' _ _
  case compactIe =>
    rw [exec, execCompactIe] at h
    exact compactOp_shape h rfl fun _ hW => hW.bind' (hW.checkCompact' _) fun _ => hW.decodeCompactIe' hW.topCall' _

end Sys2Proof.Machine
end

