-- ==== Sys2Proof/Laws/Ie.lean ====
section
/-! SUPPORT. IE operations whose parts are there: the header of an Extended or Extended-2 IE, its bracket, its close, and
the bodies that have no hook. -/

namespace Sys2Proof.Machine

variable {s u : State}

/-- The state of an Extended or Extended-2 IE whose header has been read. -/
def State.headed (s : State) (w : Nat) : State :=
  { s with pos := s.bodyStart w, out := s.out ++ s.extHeader w, state := .ieXhdr, err := 0, errPos := 0 }

/-- And whose declared length has become a limit. -/
def State.opened (s : State) (w : Nat) : State :=
  { s.headed w with limstk := s.bodyEnd w :: s.limstk }

theorem effBound_le_total (s : State) : s.effBound ≤ s.total := by
  unfold State.effBound
  split <;> simp

theorem effBound_le_top {t : Nat} {l : List Nat} (h : s.limstk = t :: l) : s.effBound ≤ t := by
  unfold State.effBound
  rw [h]
  simp

/-- A type field that is there. -/
theorem typeField_ok (hr : s.cfg.doc.l0TypeBits ≤ s.cfg.doc.readMaxBits) (h : s.subAt ≤ s.effBound) :
    typeField s =
      .ok (memRead s.mem s.pos s.cfg.doc.l0TypeBits)
        ((s.setPos s.subAt).emit (s.fieldRec .l0Type s.pos s.cfg.doc.l0TypeBits)) := by
  simp only [typeField, getS_bind]
  exact readField_ok hr h

/-- A length field that is there. -/
theorem lenField_ok {lvl : Level} {d : Dir} {w : Nat} (hl : lenWidth lvl d s = .ok w s)
    (hw : w ≤ s.cfg.doc.readMaxBits) (hb : s.pos + w ≤ s.effBound) :
    lenField lvl d s =
      .ok (memRead s.mem s.pos w * s.cfg.lenUnitBits)
        ((s.setPos (s.pos + w)).emit (s.fieldRec .length s.pos w)) := by
  simp only [lenField]
  rw [bind_of_ok hl, bind_of_ok (readField_ok hw hb)]
  rfl

/-- The state of an IE whose type field has been read. -/
def State.typed (s : State) : State :=
  (s.startIe.setPos s.subAt).emit (s.fieldRec .l0Type s.pos s.cfg.doc.l0TypeBits)

/-- The first field of an IE that starts, where it is there. -/
theorem typeField_started {w : Nat} (hx : s.ExtLegal w) (hb : s.bodyStart w ≤ s.effBound) :
    typeField s.startIe = .ok (memRead s.mem s.pos s.cfg.doc.l0TypeBits) s.typed :=
  typeField_ok (s := s.startIe) hx.type_width <| by
    unfold State.bodyStart State.lenAt at hb
    exact Nat.le_trans (Nat.le_trans (Nat.le_add_right _ _) (Nat.le_add_right _ _)) hb

/-- The header after the type field, where all of it is there. -/
theorem extendedWith_headed {lvl : Level} {d : Dir} {arm : Nat → Nat → D Unit} {w : Nat}
    (hl : ∀ t : State, t.cfg = s.cfg → lenWidth lvl d t = .ok w t) (hx : s.ExtLegal w)
    (hb : s.bodyStart w ≤ s.effBound) :
    extendedWith lvl d arm s.typed =
      bracket (s.bodyBits w) (arm s.subtypeAt (s.bodyBits w)) (s.headed w) := by
  unfold State.bodyStart at hb
  have h4 : s.lenAt ≤ s.effBound := by omega
  simp only [extendedWith, setSeq_bind, getS_bind]
  rw [bind_of_ok (readField_ok (s := s.typed.setSeq .ieXhdr) (w := (s.typed.setSeq .ieXhdr).cfg.doc.subtypeBits)
    hx.subtype_width h4)]
  let u := ((s.typed.setSeq .ieXhdr).setPos s.lenAt).emit (s.fieldRec .subtype s.subAt s.cfg.doc.subtypeBits)
  refine (bind_of_ok (lenField_ok (s := u) (w := w) (hl u rfl) hx.length_width hb)).trans ?_
  simp [u, State.headed, State.typed, State.bodyStart, State.lenAt, State.bodyBits, State.subtypeAt, State.extHeader,
    State.fieldRec, State.setPos, State.emit, State.setSeq, State.startIe]

/-- A Level-1 row whose header is there. -/
theorem level1Row_headed {arm : Nat → Nat → Nat → D Unit} {w : Nat} (hl : s.l1LenBits = some w) (hx : s.ExtLegal w)
    (hb : s.bodyStart w ≤ s.effBound) :
    level1Row s.dir arm s.startIe = bracket (s.bodyBits w) (arm s.pos s.subtypeAt (s.bodyBits w)) (s.headed w) := by
  simp only [level1Row, getPos_bind]
  rw [bind_of_ok (typeField_started hx hb)]
  refine extendedWith_headed (fun t ht => ?_) hx hb
  unfold State.l1LenBits at hl
  cases hd : s.dir <;> simp only [hd] at hl <;> simp only [lenWidth, getS_bind]
  · cases hl
    rw [ht]
    rfl
  · rw [ht, hl]
    rfl

/-- A Level-2 row whose header is there. -/
theorem level2Row_headed {arm : Nat → Nat → Nat → D Unit} (hx : s.ExtLegal s.l2LenBits)
    (hb : s.bodyStart s.l2LenBits ≤ s.effBound) :
    level2Row s.dir arm s.startIe =
      bracket (s.bodyBits s.l2LenBits) (arm s.pos s.subtypeAt (s.bodyBits s.l2LenBits)) (s.headed s.l2LenBits) := by
  simp only [level2Row, getPos_bind]
  rw [bind_of_ok (typeField_started hx hb)]
  refine extendedWith_headed (fun t ht => ?_) hx hb
  rw [State.l2LenBits, ← ht]
  cases s.dir <;> rfl

/-- An escape row whose header is there. -/
theorem extendedRow_headed {d : Dir} {w : Nat} (hl : { s with dir := d }.l1LenBits = some w) (hx : s.ExtLegal w)
    (hb : s.bodyStart w ≤ s.effBound) :
    extendedRow d s.startIe =
      bracket (s.bodyBits w) (mappedArm topCall .one d s.subtypeAt (s.bodyBits w) s.pos) (s.headed w) := by
  simp only [extendedRow, getPos_bind]
  rw [bind_of_ok (typeField_started hx hb)]
  refine extendedWith_headed (fun t ht => ?_) hx hb
  unfold State.l1LenBits at hl
  cases d <;> simp only [lenWidth, getS_bind] at hl ⊢
  · cases hl
    rw [ht]
    rfl
  · rw [ht, hl]
    rfl

theorem extended2Row_headed {d : Dir} (hx : s.ExtLegal s.l2LenBits) (hb : s.bodyStart s.l2LenBits ≤ s.effBound) :
    extended2Row d s.startIe =
      bracket (s.bodyBits s.l2LenBits) (mappedArm topCall .two d s.subtypeAt (s.bodyBits s.l2LenBits) s.pos)
        (s.headed s.l2LenBits) := by
  simp only [extended2Row, getPos_bind]
  rw [bind_of_ok (typeField_started hx hb)]
  refine extendedWith_headed (fun t ht => ?_) hx hb
  rw [State.l2LenBits, ← ht]
  cases d <;> rfl

/-- Close where the body left nothing. -/
theorem closeIe_exact {b : Nat} {l : List Nat} (hl : s.limstk = b :: l) (hp : s.pos = b) :
    closeIe s = .ok () (s.setLimstk l) := by
  have hd : s.drem = 0 := by unfold State.drem; rw [hl]; simp [hp]
  simp only [closeIe, getS_bind, hd, closeRest, if_true, pure_bind_run]
  exact popLimit_ok hl

/-- Close where the body left bits: they are passed over, with a warning. -/
theorem closeIe_rest {b : Nat} {l : List Nat} (hl : s.limstk = b :: l) (hp : s.pos < b) (hb : b ≤ s.effBound) :
    closeIe s = .ok () (((s.setPos b).addWarn ⟨.lengthConsistency, s.pos, b - s.pos⟩).setLimstk l) := by
  have hd : s.drem = b - s.pos := by unfold State.drem; rw [hl]
  have hq : s.pos + (b - s.pos) = b := by omega
  have hr : closeRest (b - s.pos) s = .ok () ((s.setPos b).addWarn ⟨.lengthConsistency, s.pos, b - s.pos⟩) := by
    unfold closeRest
    rw [if_neg (by omega), getPos_bind, skipBits, bind_of_ok (moveBits_ok (by omega)), hq]
    rfl
  simp only [closeIe, getS_bind, hd]
  rw [bind_of_ok hr]
  exact popLimit_ok (by simpa using hl)

/-- A bracket whose arm ends on the declared end. -/
theorem bracket_exact {n : Nat} {arm : D Unit} (hd : s.limstk.length < s.cfg.doc.limDepth) (ht : ∀ b ∈ s.limstk.head?, s.pos + n ≤ b)
    (h : arm (s.setLimstk ((s.pos + n) :: s.limstk)) = .ok () u) (hl : u.limstk = (s.pos + n) :: s.limstk)
    (hp : u.pos = s.pos + n) : bracket n arm s = .ok () (u.setLimstk s.limstk) := by
  simp only [bracket]
  rw [bind_of_ok (pushLimit_ok hd ht), bind_of_ok h]
  exact closeIe_exact hl hp

/-- A bracket whose arm stops. -/
theorem bracket_error {n : Nat} {arm : D Unit} {e : Stop} (hd : s.limstk.length < s.cfg.doc.limDepth)
    (ht : ∀ b ∈ s.limstk.head?, s.pos + n ≤ b) (h : arm (s.setLimstk ((s.pos + n) :: s.limstk)) = .error e u) :
    bracket n arm s = .error e u := by
  simp only [bracket]
  rw [bind_of_ok (pushLimit_ok hd ht), bind_of_error h]

/-- Where an IE fits, the declared end lies within every open limit. -/
theorem State.ExtFits.within_top {w : Nat} (h : s.ExtFits w) : ∀ b ∈ s.limstk.head?, s.bodyEnd w ≤ b := by
  intro b hb
  cases hl : s.limstk with
  | nil => simp [hl] at hb
  | cons x l =>
    have := effBound_le_top hl
    have := h.inside
    simp [hl] at hb
    omega

/-- The bound inside an IE that fits. -/
theorem State.ExtFits.opened_bound {w : Nat} (h : s.ExtFits w) : (s.opened w).effBound = s.bodyEnd w := by
  have h1 := effBound_le_total s
  have h2 := h.inside
  change min s.total (s.bodyEnd w) = s.bodyEnd w
  omega

/-- An IE that fits, its arm ending on the declared end. -/
theorem State.ExtFits.bracket {w : Nat} (h : s.ExtFits w) {arm : D Unit} (ha : arm (s.opened w) = .ok () u)
    (hl : u.limstk = s.bodyEnd w :: s.limstk) (hp : u.pos = s.bodyEnd w) :
    Machine.bracket (s.bodyBits w) arm (s.headed w) = .ok () (u.setLimstk s.limstk) :=
  bracket_exact (s := s.headed w) h.room h.within_top ha hl hp

/-- A body passed over whole. -/
theorem State.ExtFits.skipField {w : Nat} (h : s.ExtFits w) (id : FieldId) (q : SeqState) :
    Machine.skipField id (s.bodyBits w) ((s.opened w).setSeq q) =
      .ok () ((((s.opened w).setSeq q).setPos (s.bodyEnd w)).emit (passRec id (s.bodyStart w) (s.bodyBits w))) := by
  refine skipField_ok ?_
  rw [State.setSeq_effBound, h.opened_bound]
  exact Nat.le_refl _

/-- The default body of a kind whose hook is not supplied. -/
theorem State.ExtFits.opaqueBody {w : Nat} (h : s.ExtFits w) (id : HookId) (q : SeqState) :
    Machine.opaqueBody id ((s.opened w).setSeq q) =
      .ok ()
        ((((s.opened w).setSeq q).setPos (s.bodyEnd w)).emit (passRec (.body id) (s.bodyStart w) (s.bodyBits w))) := by
  have hd : ((s.opened w).setSeq q).drem = s.bodyBits w := by
    simp [State.drem, State.opened, State.headed, State.setSeq, State.bodyEnd]
  simp only [Machine.opaqueBody, getS_bind, hd]
  exact h.skipField _ q

/-- A hook that is not supplied runs its default. -/
theorem invokeHook_default {call : HookCall → D Unit} {id : HookId} {d : Dir} {sb : Bool} {dflt : D Unit} {env : Env}
    (hn : s.cfg.hooks.lookup id = none) (h : dflt s = .ok () u) : invokeHook call id d sb dflt env s = .ok none u := by
  simp only [invokeHook, getS_bind, hn]
  rw [bind_of_ok h]
  rfl

end Sys2Proof.Machine
end

