-- ==== Sys2Proof/Laws/PerInstr.lean ====
section
/-! SUPPORT. Each instruction's code is accepted by the decoder whatever maps the configuration supplies
(30_encoding.md R91 to R104): a code never stops being an instruction because a map changed. -/

namespace Sys2Proof.Laws.EncodeAccepted

/-- The code of a well-formed instruction decodes, under any maps and other parameters, the widths of the fields being as
documented (00_scope.md R6), to some instruction. -/
def Statement (i : Instr) : Prop :=
  i.wf = true → ∀ c : Params, ∃ j, decode { c with doc := {} } (encode i) = .ok j

theorem init (start : BitVec 32) : Statement (.init start) := fun _ _ => ⟨(.init start), by simp [encode, decode, decodeCmd, cmdOp_cmdWord, cmdArg_cmdWord]⟩

theorem read (w : BitVec 6) : Statement (.read w) := fun _ _ => ⟨.read w, decodeCmd_read w⟩

theorem skip (w : BitVec 32) : Statement (.skip w) := fun _ _ => ⟨(.skip w), by simp [encode, decode, decodeCmd, cmdOp_cmdWord, cmdArg_cmdWord]⟩

theorem padn : Statement .padn := fun _ _ => ⟨_, rfl⟩

theorem padb : Statement .padb := fun _ _ => ⟨_, rfl⟩

theorem rem : Statement .rem := fun _ _ => ⟨_, rfl⟩

theorem pushlim (n : BitVec 32) : Statement (.pushlim n) := fun _ _ => ⟨(.pushlim n), by simp [encode, decode, decodeCmd, cmdOp_cmdWord, cmdArg_cmdWord]⟩

theorem poplim : Statement .poplim := fun _ _ => ⟨_, rfl⟩

theorem rcid : Statement .rcid := fun _ _ => ⟨_, rfl⟩

theorem crc16 : Statement .crc16 := fun _ _ => ⟨_, rfl⟩

theorem crc32 : Statement .crc32 := fun _ _ => ⟨_, rfl⟩

theorem verify16 : Statement .verify16 := fun _ _ => ⟨_, rfl⟩

theorem verify32 : Statement .verify32 := fun _ _ => ⟨_, rfl⟩

theorem ieDlLegacy : Statement .ieDlLegacy := fun _ _ => ⟨_, rfl⟩

theorem ieUlLegacy : Statement .ieUlLegacy := fun _ _ => ⟨_, rfl⟩

theorem ieDlCompact : Statement .ieDlCompact := fun _ _ => ⟨_, rfl⟩

theorem ieUlCompact : Statement .ieUlCompact := fun _ _ => ⟨_, rfl⟩

theorem msgDlMap : Statement .msgDlMap := fun _ _ => ⟨_, rfl⟩

theorem msgUlMap : Statement .msgUlMap := fun _ _ => ⟨_, rfl⟩

theorem msgCompactDlMap : Statement .msgCompactDlMap := fun _ _ => ⟨_, rfl⟩

theorem msgCompactUlMap : Statement .msgCompactUlMap := fun _ _ => ⟨_, rfl⟩

theorem msgRaasPrivateMap : Statement .msgRaasPrivateMap := fun _ _ => ⟨_, rfl⟩

theorem msgReservedKind5 (hi : BitVec 29) : Statement (.msgReservedKind5 hi) := fun _ _ => by
  have h : (hi ++ (5 : BitVec 3)).extractLsb' 0 3 = 5 := BitVec.extractLsb'_append_eq_right
  simp only [encode, decode, decodeCmd, cmdOp_cmdWord, cmdArg_cmdWord, decodeMsgCmd, h]
  exact ⟨_, rfl⟩

theorem msgReservedKind6 (hi : BitVec 29) : Statement (.msgReservedKind6 hi) := fun _ _ => by
  have h : (hi ++ (6 : BitVec 3)).extractLsb' 0 3 = 6 := BitVec.extractLsb'_append_eq_right
  simp only [encode, decode, decodeCmd, cmdOp_cmdWord, cmdArg_cmdWord, decodeMsgCmd, h]
  exact ⟨_, rfl⟩

theorem msgReservedKind7 (hi : BitVec 29) : Statement (.msgReservedKind7 hi) := fun _ _ => by
  have h : (hi ++ (7 : BitVec 3)).extractLsb' 0 3 = 7 := BitVec.extractLsb'_append_eq_right
  simp only [encode, decode, decodeCmd, cmdOp_cmdWord, cmdArg_cmdWord, decodeMsgCmd, h]
  exact ⟨_, rfl⟩

theorem reserved (arg : BitVec 32) : Statement (.reserved arg) := fun _ _ => ⟨(.reserved arg), by simp [encode, decode, decodeCmd, cmdOp_cmdWord, cmdArg_cmdWord]⟩

theorem regType0 : Statement .regType0 := fun _ _ => ⟨_, rfl⟩

theorem regType1 : Statement .regType1 := fun _ _ => ⟨_, rfl⟩

theorem regType2 : Statement .regType2 := fun _ _ => ⟨_, rfl⟩

theorem regType3 : Statement .regType3 := fun _ _ => ⟨_, rfl⟩

theorem regType4 : Statement .regType4 := fun _ _ => ⟨_, rfl⟩

theorem regType5 : Statement .regType5 := fun _ _ => ⟨_, rfl⟩

theorem regType6 : Statement .regType6 := fun _ _ => ⟨_, rfl⟩

theorem regType7 : Statement .regType7 := fun _ _ => ⟨_, rfl⟩

theorem regType8 : Statement .regType8 := fun _ _ => ⟨_, rfl⟩

theorem regType9 : Statement .regType9 := fun _ _ => ⟨_, rfl⟩

theorem regType10 : Statement .regType10 := fun _ _ => ⟨_, rfl⟩

theorem l0Unassigned11 : Statement .l0Unassigned11 := fun _ _ => ⟨_, rfl⟩

theorem l0Unassigned12 : Statement .l0Unassigned12 := fun _ _ => ⟨_, rfl⟩

theorem gapPapr : Statement .gapPapr := fun _ _ => ⟨_, rfl⟩

theorem extended2 : Statement .extended2 := fun _ _ => ⟨_, rfl⟩

theorem extended : Statement .extended := fun _ _ => ⟨_, rfl⟩

theorem extendedUplink : Statement .extendedUplink := fun _ _ => ⟨_, rfl⟩

theorem channelMeasurement : Statement .channelMeasurement := fun _ _ => ⟨_, rfl⟩

theorem stcZone : Statement .stcZone := fun _ _ => ⟨_, rfl⟩

theorem aas : Statement .aas := fun _ _ => ⟨_, rfl⟩

theorem dataLocationOtherBs : Statement .dataLocationOtherBs := fun _ _ => ⟨_, rfl⟩

theorem cidSwitch : Statement .cidSwitch := fun _ _ => ⟨_, rfl⟩

theorem mimoBasic : Statement .mimoBasic := fun _ _ => ⟨_, rfl⟩

theorem mimoEnhanced : Statement .mimoEnhanced := fun _ _ => ⟨_, rfl⟩

theorem harqMapPointer : Statement .harqMapPointer := fun _ _ => ⟨_, rfl⟩

theorem phyModifier : Statement .phyModifier := fun _ _ => ⟨_, rfl⟩

theorem unknownL1Code9 : Statement .unknownL1Code9 := fun _ _ => ⟨_, rfl⟩

theorem broadcastControlPointer : Statement .broadcastControlPointer := fun _ _ => ⟨_, rfl⟩

theorem puscBurstOtherSegment : Statement .puscBurstOtherSegment := fun _ _ => ⟨_, rfl⟩

theorem unknownL1Code12 : Statement .unknownL1Code12 := fun _ _ => ⟨_, rfl⟩

theorem unknownL1Code13 : Statement .unknownL1Code13 := fun _ _ => ⟨_, rfl⟩

theorem unknownL1Code14 : Statement .unknownL1Code14 := fun _ _ => ⟨_, rfl⟩

theorem interferenceNoiseLevel : Statement .interferenceNoiseLevel := fun _ _ => ⟨_, rfl⟩

theorem mbsMap : Statement .mbsMap := fun _ _ => ⟨_, rfl⟩

theorem handoverVariant1 : Statement .handoverVariant1 := fun _ _ => ⟨_, rfl⟩

theorem handoverVariant2 : Statement .handoverVariant2 := fun _ _ => ⟨_, rfl⟩

theorem handoverVariant3 : Statement .handoverVariant3 := fun _ _ => ⟨_, rfl⟩

theorem unknownL2Code4 : Statement .unknownL2Code4 := fun _ _ => ⟨_, rfl⟩

theorem unknownL2Code5 : Statement .unknownL2Code5 := fun _ _ => ⟨_, rfl⟩

theorem skipIe : Statement .skipIe := fun _ _ => ⟨_, rfl⟩

theorem harqMap : Statement .harqMap := fun _ _ => ⟨_, rfl⟩

theorem harqAckBitmap : Statement .harqAckBitmap := fun _ _ => ⟨_, rfl⟩

theorem enhancedDlMap : Statement .enhancedDlMap := fun _ _ => ⟨_, rfl⟩

theorem unknownL2Code10 : Statement .unknownL2Code10 := fun _ _ => ⟨_, rfl⟩

theorem unknownL2Code11 : Statement .unknownL2Code11 := fun _ _ => ⟨_, rfl⟩

theorem unknownL2Code12 : Statement .unknownL2Code12 := fun _ _ => ⟨_, rfl⟩

theorem unknownL2Code13 : Statement .unknownL2Code13 := fun _ _ => ⟨_, rfl⟩

theorem aasSdma : Statement .aasSdma := fun _ _ => ⟨_, rfl⟩

theorem unknownL2Code15 : Statement .unknownL2Code15 := fun _ _ => ⟨_, rfl⟩

theorem sbChase : Statement .sbChase := fun _ _ => ⟨_, rfl⟩

theorem sbIrCtc : Statement .sbIrCtc := fun _ _ => ⟨_, rfl⟩

theorem sbIrCc : Statement .sbIrCc := fun _ _ => ⟨_, rfl⟩

theorem sbMimoChase : Statement .sbMimoChase := fun _ _ => ⟨_, rfl⟩

theorem sbMimoIr : Statement .sbMimoIr := fun _ _ => ⟨_, rfl⟩

theorem sbMimoIrCc : Statement .sbMimoIrCc := fun _ _ => ⟨_, rfl⟩

theorem sbMimoStc : Statement .sbMimoStc := fun _ _ => ⟨_, rfl⟩

theorem unknownSbMode7 : Statement .unknownSbMode7 := fun _ _ => ⟨_, rfl⟩

theorem unknownSbMode8 : Statement .unknownSbMode8 := fun _ _ => ⟨_, rfl⟩

theorem unknownSbMode9 : Statement .unknownSbMode9 := fun _ _ => ⟨_, rfl⟩

theorem unknownSbMode10 : Statement .unknownSbMode10 := fun _ _ => ⟨_, rfl⟩

theorem unknownSbMode11 : Statement .unknownSbMode11 := fun _ _ => ⟨_, rfl⟩

theorem unknownSbMode12 : Statement .unknownSbMode12 := fun _ _ => ⟨_, rfl⟩

theorem unknownSbMode13 : Statement .unknownSbMode13 := fun _ _ => ⟨_, rfl⟩

theorem unknownSbMode14 : Statement .unknownSbMode14 := fun _ _ => ⟨_, rfl⟩

theorem unknownSbMode15 : Statement .unknownSbMode15 := fun _ _ => ⟨_, rfl⟩

theorem rcidN16 : Statement .rcidN16 := fun _ _ => ⟨_, rfl⟩

theorem rcidP1 : Statement .rcidP1 := fun _ _ => ⟨_, rfl⟩

theorem rcidP0_11 : Statement .rcidP0_11 := fun _ _ => ⟨_, rfl⟩

theorem rcidP0_7 : Statement .rcidP0_7 := fun _ _ => ⟨_, rfl⟩

theorem rcidP0_3 : Statement .rcidP0_3 := fun _ _ => ⟨_, rfl⟩

theorem trailer16 : Statement .trailer16 := fun _ _ => ⟨_, rfl⟩

theorem trailer32 : Statement .trailer32 := fun _ _ => ⟨_, rfl⟩

theorem compactIe : Statement .compactIe := fun _ _ => ⟨_, rfl⟩

theorem rd48 : Statement .rd48 := fun _ _ => ⟨_, rfl⟩

theorem rd64 : Statement .rd64 := fun _ _ => ⟨_, rfl⟩

theorem readn (k : Nat) : Statement (.readn k) := fun _ _ =>
  ⟨_, decodePseudo_read _ (by rw [BitVec.toNat_ofNat]; omega)⟩

theorem skipn (k : Nat) : Statement (.skipn k) := fun _ _ =>
  ⟨_, decodePseudo_skip _ (by rw [BitVec.toNat_ofNat]; omega)⟩

theorem remn : Statement .remn := fun _ _ => ⟨_, rfl⟩

end Sys2Proof.Laws.EncodeAccepted
end

