-- ==== Sys2Proof/Tests/Slice0.lean ====
section
/-! SUPPORT. Our own tests. `test_…` compares with values of the spec: decodings with words written out from the tables of
30_encoding.md, results with the vectors of 95_test_vectors.md (the vector is named). `witness_…` shows that the hypotheses
of the statement of that name are met by a concrete state and operands. -/

open Sys2Proof Sys2Proof.Machine

namespace Sys2Proof.Tests

-- One theorem at a time: side by side, their kernel evaluations take more threads than the check allows.
set_option Elab.async false

/-! ### Helpers -/

/-- A state with a buffer of the given bytes, the cursor at its start, no limit, and the next `alt_format` samples. -/
def load (bs : List Nat) (alt : List Bool := [false]) : State :=
  { State.reset with
    mem := ofBytes 0 (bs.map (BitVec.ofNat 8)), len := bs.length, altSamples := alt
    inp := { len := bs.length, start := 0, msgLenBits := 0, cqichIdWidth := 9, includeCor2Changes := false } }

/-- The same with `cid_type` set, as 70_reset_and_hazards.md R311 allows a test. -/
def loadCid (bs : List Nat) (t : CidType) : State :=
  { load bs with session := { Params.default.sessionInit with cidType := t } }

/-- The same with MSG_LEN_BITS, for a message. -/
def loadMsg (bs : List Nat) (start n : Nat) (alt : List Bool) (crc16 : Bool) : State :=
  { load bs alt with
    inp := { (load bs).inp with start := start, msgLenBits := n }
    cfg := { Params.default with crc16Reflect := some crc16 } }

/-- A state with a configuration. -/
def withCfg (c : Params) (s : State) : State := { s with cfg := c }

/-- What a view of the next state is, if there is one. -/
def after {α : Type} (o : Host.Outcome State Fault Refusal) (view : State → α) : Option α :=
  match o with
  | .next t => some (view t)
  | .fault _ => none
  | .refused _ => none

/-- The reason of a refusal. -/
def refusalOf (o : Host.Outcome State Fault Refusal) : Option Refusal :=
  match o with
  | .next _ => none
  | .fault _ => none
  | .refused r => some r

theorem exists_next {o : Host.Outcome State Fault Refusal} {p : State → Bool} (h : after o p = some true) :
    ∃ t, o = .next t ∧ p t = true := by
  cases o with
  | next t => exact ⟨t, rfl, by simpa [after] using h⟩
  | fault f => simp [after] at h
  | refused r => simp [after] at h

/-- Bits written out. -/
def bin (l : List Nat) : List Bool := l.map fun b => decide (b = 1)

/-- A field record. -/
def rec (id : FieldId) (off len val : Nat) : OutRec := { id := id, off := off, len := len, val := some val }

/-! ### Well-formedness refuses -/

theorem test_wf_read_33 : (Instr.read 33).wf = false := by decide
theorem test_wf_readn_9 : (Instr.readn 9).wf = false := by decide
theorem test_wf_skipn_too_long : (Instr.skipn (2 ^ 30)).wf = false := by decide

/-! ### Decoding, words written out from 30_encoding.md -/


/-- 30_encoding.md R91. -/
theorem test_decode_commands :
    decodeCmd 0x000000010#36 = .ok (.init 16) ∧
      decodeCmd 0x100000020#36 = .ok (.read 32) ∧
      decodeCmd 0x200000048#36 = .ok (.skip 72) ∧
      decodeCmd 0x300000000#36 = .ok .padn ∧
      decodeCmd 0x400000000#36 = .ok .padb ∧
      decodeCmd 0x500000000#36 = .ok .rem ∧
      decodeCmd 0x600000018#36 = .ok (.pushlim 24) ∧
      decodeCmd 0x700000000#36 = .ok .poplim ∧
      decodeCmd 0x800000000#36 = .ok .rcid ∧
      decodeCmd 0x900000000#36 = .ok .crc16 ∧
      decodeCmd 0xA00000000#36 = .ok .crc32 ∧
      decodeCmd 0xB00000000#36 = .ok .verify16 ∧
      decodeCmd 0xC00000000#36 = .ok .verify32 := by decide +kernel

/-- 30_encoding.md R91, R92. -/
theorem test_decode_calls :
    decodeCmd 0xD00000000#36 = .ok .ieDlLegacy ∧
      decodeCmd 0xD00000001#36 = .ok .ieUlLegacy ∧
      decodeCmd 0xD00000002#36 = .ok .ieDlCompact ∧
      decodeCmd 0xD00000003#36 = .ok .ieUlCompact ∧
      decodeCmd 0xE00000000#36 = .ok .msgDlMap ∧
      decodeCmd 0xE00000001#36 = .ok .msgUlMap ∧
      decodeCmd 0xE00000002#36 = .ok .msgCompactDlMap ∧
      decodeCmd 0xE00000003#36 = .ok .msgCompactUlMap ∧
      decodeCmd 0xE00000004#36 = .ok .msgRaasPrivateMap ∧
      decodeCmd 0xE00000005#36 = .ok (.msgReservedKind5 0) ∧
      decodeCmd 0xE0000000E#36 = .ok (.msgReservedKind6 1) ∧
      decodeCmd 0xE00000007#36 = .ok (.msgReservedKind7 0) ∧
      decodeCmd 0xF00000007#36 = .ok (.reserved 7) := by decide +kernel

/-- Must-be-zero bits (30_encoding.md R92). -/
theorem test_decode_nonzero_arg :
    decodeCmd 0x100000040#36 = .error .badArgument ∧
      decodeCmd 0x300000001#36 = .error .badArgument ∧
      decodeCmd 0xD00000004#36 = .error .badArgument ∧
      decodeCmd 0xE00000008#36 = .error .badArgument := by decide +kernel

/-- 30_encoding.md R93, R95, R97: four bits of type. -/
theorem test_decode_level0 :
    decodeWire Params.default (.ie .dl) (bin [0, 0, 0, 0]) = .ok .regType0 ∧
      decodeWire Params.default (.ie .dl) (bin [0, 0, 0, 1]) = .ok .regType1 ∧
      decodeWire Params.default (.ie .dl) (bin [0, 0, 1, 0]) = .ok .regType2 ∧
      decodeWire Params.default (.ie .dl) (bin [0, 0, 1, 1]) = .ok .regType3 ∧
      decodeWire Params.default (.ie .dl) (bin [0, 1, 0, 0]) = .ok .regType4 ∧
      decodeWire Params.default (.ie .dl) (bin [0, 1, 0, 1]) = .ok .regType5 ∧
      decodeWire Params.default (.ie .dl) (bin [0, 1, 1, 0]) = .ok .regType6 ∧
      decodeWire Params.default (.ie .dl) (bin [0, 1, 1, 1]) = .ok .regType7 ∧
      decodeWire Params.default (.ie .dl) (bin [1, 0, 0, 0]) = .ok .regType8 ∧
      decodeWire Params.default (.ie .dl) (bin [1, 0, 0, 1]) = .ok .regType9 ∧
      decodeWire Params.default (.ie .dl) (bin [1, 0, 1, 0]) = .ok .regType10 ∧
      decodeWire Params.default (.ie .dl) (bin [1, 0, 1, 1]) = .ok .l0Unassigned11 ∧
      decodeWire Params.default (.ie .dl) (bin [1, 1, 0, 0]) = .ok .l0Unassigned12 ∧
      decodeWire Params.default (.ie .dl) (bin [1, 1, 0, 1]) = .ok .gapPapr ∧
      decodeWire Params.default (.ie .dl) (bin [1, 1, 1, 0]) = .ok .extended2 ∧
      decodeWire Params.default (.ie .dl) (bin [1, 1, 1, 1]) = .ok .extended ∧
      decodeWire Params.default (.ie .ul) (bin [1, 1, 1, 1]) = .ok .extendedUplink := by decide +kernel

/-- 30_encoding.md R96, R98: type 1111 and four bits of sub-type. -/
theorem test_decode_level1 :
    decodeWire Params.default (.ie .dl) (bin [1, 1, 1, 1, 0, 0, 0, 0]) = .ok .channelMeasurement ∧
      decodeWire Params.default (.ie .dl) (bin [1, 1, 1, 1, 0, 0, 0, 1]) = .ok .stcZone ∧
      decodeWire Params.default (.ie .dl) (bin [1, 1, 1, 1, 0, 0, 1, 0]) = .ok .aas ∧
      decodeWire Params.default (.ie .dl) (bin [1, 1, 1, 1, 0, 0, 1, 1]) = .ok .dataLocationOtherBs ∧
      decodeWire Params.default (.ie .dl) (bin [1, 1, 1, 1, 0, 1, 0, 0]) = .ok .cidSwitch ∧
      decodeWire Params.default (.ie .dl) (bin [1, 1, 1, 1, 0, 1, 0, 1]) = .ok .mimoBasic ∧
      decodeWire Params.default (.ie .dl) (bin [1, 1, 1, 1, 0, 1, 1, 0]) = .ok .mimoEnhanced ∧
      decodeWire Params.default (.ie .dl) (bin [1, 1, 1, 1, 0, 1, 1, 1]) = .ok .harqMapPointer ∧
      decodeWire Params.default (.ie .dl) (bin [1, 1, 1, 1, 1, 0, 0, 0]) = .ok .phyModifier ∧
      decodeWire Params.default (.ie .dl) (bin [1, 1, 1, 1, 1, 0, 0, 1]) = .ok .unknownL1Code9 ∧
      decodeWire Params.default (.ie .dl) (bin [1, 1, 1, 1, 1, 0, 1, 0]) = .ok .broadcastControlPointer ∧
      decodeWire Params.default (.ie .dl) (bin [1, 1, 1, 1, 1, 0, 1, 1]) = .ok .puscBurstOtherSegment ∧
      decodeWire Params.default (.ie .dl) (bin [1, 1, 1, 1, 1, 1, 0, 0]) = .ok .unknownL1Code12 ∧
      decodeWire Params.default (.ie .dl) (bin [1, 1, 1, 1, 1, 1, 0, 1]) = .ok .unknownL1Code13 ∧
      decodeWire Params.default (.ie .dl) (bin [1, 1, 1, 1, 1, 1, 1, 0]) = .ok .unknownL1Code14 ∧
      decodeWire Params.default (.ie .dl) (bin [1, 1, 1, 1, 1, 1, 1, 1]) = .ok .interferenceNoiseLevel := by decide +kernel

/-- 30_encoding.md R99, R100: type 1110 and four bits of sub-type. -/
theorem test_decode_level2 :
    decodeWire Params.default (.ie .dl) (bin [1, 1, 1, 0, 0, 0, 0, 0]) = .ok .mbsMap ∧
      decodeWire Params.default (.ie .dl) (bin [1, 1, 1, 0, 0, 0, 0, 1]) = .ok .handoverVariant1 ∧
      decodeWire Params.default (.ie .dl) (bin [1, 1, 1, 0, 0, 0, 1, 0]) = .ok .handoverVariant2 ∧
      decodeWire Params.default (.ie .dl) (bin [1, 1, 1, 0, 0, 0, 1, 1]) = .ok .handoverVariant3 ∧
      decodeWire Params.default (.ie .dl) (bin [1, 1, 1, 0, 0, 1, 0, 0]) = .ok .unknownL2Code4 ∧
      decodeWire Params.default (.ie .dl) (bin [1, 1, 1, 0, 0, 1, 0, 1]) = .ok .unknownL2Code5 ∧
      decodeWire Params.default (.ie .dl) (bin [1, 1, 1, 0, 0, 1, 1, 0]) = .ok .skipIe ∧
      decodeWire Params.default (.ie .dl) (bin [1, 1, 1, 0, 0, 1, 1, 1]) = .ok .harqMap ∧
      decodeWire Params.default (.ie .dl) (bin [1, 1, 1, 0, 1, 0, 0, 0]) = .ok .harqAckBitmap ∧
      decodeWire Params.default (.ie .dl) (bin [1, 1, 1, 0, 1, 0, 0, 1]) = .ok .enhancedDlMap ∧
      decodeWire Params.default (.ie .dl) (bin [1, 1, 1, 0, 1, 0, 1, 0]) = .ok .unknownL2Code10 ∧
      decodeWire Params.default (.ie .dl) (bin [1, 1, 1, 0, 1, 0, 1, 1]) = .ok .unknownL2Code11 ∧
      decodeWire Params.default (.ie .dl) (bin [1, 1, 1, 0, 1, 1, 0, 0]) = .ok .unknownL2Code12 ∧
      decodeWire Params.default (.ie .dl) (bin [1, 1, 1, 0, 1, 1, 0, 1]) = .ok .unknownL2Code13 ∧
      decodeWire Params.default (.ie .dl) (bin [1, 1, 1, 0, 1, 1, 1, 0]) = .ok .aasSdma ∧
      decodeWire Params.default (.ie .dl) (bin [1, 1, 1, 0, 1, 1, 1, 1]) = .ok .unknownL2Code15 := by decide +kernel

/-- 30_encoding.md R101: four bits of mode. -/
theorem test_decode_modes :
    decodeWire Params.default (.sb .dl) (bin [0, 0, 0, 0]) = .ok .sbChase ∧
      decodeWire Params.default (.sb .dl) (bin [0, 0, 0, 1]) = .ok .sbIrCtc ∧
      decodeWire Params.default (.sb .dl) (bin [0, 0, 1, 0]) = .ok .sbIrCc ∧
      decodeWire Params.default (.sb .dl) (bin [0, 0, 1, 1]) = .ok .sbMimoChase ∧
      decodeWire Params.default (.sb .dl) (bin [0, 1, 0, 0]) = .ok .sbMimoIr ∧
      decodeWire Params.default (.sb .dl) (bin [0, 1, 0, 1]) = .ok .sbMimoIrCc ∧
      decodeWire Params.default (.sb .dl) (bin [0, 1, 1, 0]) = .ok .sbMimoStc ∧
      decodeWire Params.default (.sb .dl) (bin [0, 1, 1, 1]) = .ok .unknownSbMode7 ∧
      decodeWire Params.default (.sb .dl) (bin [1, 0, 0, 0]) = .ok .unknownSbMode8 ∧
      decodeWire Params.default (.sb .dl) (bin [1, 0, 0, 1]) = .ok .unknownSbMode9 ∧
      decodeWire Params.default (.sb .dl) (bin [1, 0, 1, 0]) = .ok .unknownSbMode10 ∧
      decodeWire Params.default (.sb .dl) (bin [1, 0, 1, 1]) = .ok .unknownSbMode11 ∧
      decodeWire Params.default (.sb .dl) (bin [1, 1, 0, 0]) = .ok .unknownSbMode12 ∧
      decodeWire Params.default (.sb .dl) (bin [1, 1, 0, 1]) = .ok .unknownSbMode13 ∧
      decodeWire Params.default (.sb .dl) (bin [1, 1, 1, 0]) = .ok .unknownSbMode14 ∧
      decodeWire Params.default (.sb .dl) (bin [1, 1, 1, 1]) = .ok .unknownSbMode15 := by decide +kernel

/-- 30_encoding.md R102 to R104. -/
theorem test_decode_rest :
    decodeWire Params.default (.rcid .normal16) (bin [1]) = .ok .rcidN16 ∧
      decodeWire Params.default (.rcid .reduced3) (bin [1]) = .ok .rcidP1 ∧
      decodeWire Params.default (.rcid .reduced11) (bin [0]) = .ok .rcidP0_11 ∧
      decodeWire Params.default (.rcid .reduced7) (bin [0]) = .ok .rcidP0_7 ∧
      decodeWire Params.default (.rcid .reduced3) (bin [0]) = .ok .rcidP0_3 ∧
      decodeWire Params.default .trailer16 (bin []) = .ok .trailer16 ∧
      decodeWire Params.default .trailer32 (bin []) = .ok .trailer32 ∧
      decodeWire Params.default .compact (bin []) = .ok .compactIe := by decide +kernel

/-- 30_encoding.md R111. -/
theorem test_decode_pseudo :
    decodePseudo [0x100000020#36, 0x100000010#36] = .ok .rd48 ∧
      decodePseudo [0x100000020#36, 0x100000020#36] = .ok .rd64 ∧
      decodePseudo [0x10000000C#36] = .ok (.readn 3) ∧
      decodePseudo [0x20000000C#36] = .ok (.skipn 3) ∧
      decodePseudo [0x500000000#36] = .ok .remn := by decide +kernel

theorem test_decode_pseudo_not :
    decodePseudo [0x100000005#36] = .error .notAPseudo := by decide +kernel

/-! ### The cursor (vectors V1 to V3) -/

/-- V1. -/
theorem test_read :
    after (exec (.read 9) { load [0xA5, 0x3C, 0xF0, 0x0F] with pos := 7 }) (fun t => (t.result, t.pos)) = some (.value 0x13C, 16) := by decide +kernel

/-- V1: fail closed. -/
theorem test_read_closed :
    after (exec (.read 9) { load [0xA5, 0x3C, 0xF0, 0x0F] with pos := 24 }) (fun t => (t.result, t.pos)) =
      some (.error .truncated 24, 24) := by decide +kernel

theorem test_skip :
    after (exec (.skip 4) { load [0xA5, 0x3C, 0xF0, 0x0F] with pos := 28 }) (fun t => (t.result, t.pos)) = some (.done, 32) := by decide +kernel

/-- V1. -/
theorem test_padn :
    after (exec .padn { load [0xA5, 0x3C, 0xF0, 0x0F] with pos := 17 }) State.pos = some 20 := by decide +kernel

/-- V1. -/
theorem test_padb :
    after (exec .padb { load [0xA5, 0x3C, 0xF0, 0x0F] with pos := 20 }) State.pos = some 24 := by decide +kernel

/-- V2. -/
theorem test_padb_limit :
    after (exec .padb { load [0x12, 0x34, 0x56, 0x78] with pos := 9, limstk := [13] }) State.result = some (.error .truncated 9) := by decide +kernel

/-- V1. -/
theorem test_rem :
    after (exec .rem { load [0xA5, 0x3C, 0xF0, 0x0F] with pos := 24 }) State.result = some (.value 8) := by decide +kernel

/-- V1. -/
theorem test_init :
    after (exec (.init 40) (load [0xA5, 0x3C, 0xF0, 0x0F, 0x81])) (fun t => (t.pos, t.msgStartByte, t.rem)) = some (40, 5, 0) := by decide +kernel

/-- V1. -/
theorem test_init_past :
    refusalOf (exec (.init 41) (load [0xA5, 0x3C, 0xF0, 0x0F, 0x81])) = some .badInit := by decide +kernel

/-- V2. -/
theorem test_pushlim :
    after (exec (.pushlim 8) { load [0x12, 0x34, 0x56, 0x78, 0x9A, 0xBC] with pos := 20, limstk := [32] }) State.limstk = some [28, 32] := by decide +kernel

/-- V2. -/
theorem test_pushlim_too_long :
    after (exec (.pushlim 5) { load [0x12, 0x34, 0x56, 0x78, 0x9A, 0xBC] with pos := 28, limstk := [32] }) State.result =
      some (.error .inconsistentLength 28) := by decide +kernel

/-- V2. -/
theorem test_poplim :
    after (exec .poplim { load [0x12, 0x34, 0x56, 0x78, 0x9A, 0xBC] with pos := 28, limstk := [28, 32] }) State.limstk = some [32] := by decide +kernel

/-- V2. -/
theorem test_poplim_empty :
    refusalOf (exec .poplim State.reset) = some .limitUnderflow := by decide +kernel

/-- V3. -/
theorem test_rd48 :
    after (exec .rd48 { load [0x00, 0x11, 0x22, 0x33, 0x44, 0x55, 0x66, 0x77, 0x88] with pos := 4 }) (fun t => (t.result, t.pos)) =
      some (.value 0x011223344556, 52) := by decide +kernel

/-- V3: not atomic. -/
theorem test_rd48_cut :
    after (exec .rd48 { load [0x00, 0x11, 0x22, 0x33, 0x44, 0x55] with pos := 4 }) (fun t => (t.result, t.pos)) =
      some (.error .truncated 36, 36) := by decide +kernel

/-- V3. -/
theorem test_rd64 :
    after (exec .rd64 { load [0x00, 0x11, 0x22, 0x33, 0x44, 0x55, 0x66, 0x77, 0x88] with pos := 4 }) (fun t => (t.result, t.pos)) =
      some (.value 0x0112233445566778, 68) := by decide +kernel

/-- Program P1, line 4. -/
theorem test_readn :
    after (exec (.readn 3) { load [0x12, 0x34, 0x56, 0x78, 0x9A, 0xBC] with pos := 8 }) State.result = some (.value 0x345) := by decide +kernel

theorem test_skipn :
    after (exec (.skipn 3) { load [0xA5, 0x3C, 0xF0, 0x0F] with pos := 5 }) State.pos = some 17 := by decide +kernel

theorem test_remn :
    after (exec .remn { load [0xA5, 0x3C, 0xF0, 0x0F] with pos := 5 }) State.result = some (.value 6) := by decide +kernel

/-! ### RCID (vector V4) -/

/-- V4. -/
theorem test_rcid :
    after (exec .rcid (loadCid [0x80, 0x10] .normal16)) State.result = some (.cid 0x8010 16) ∧
      after (exec .rcid (loadCid [0x7F, 0xFF] .reduced11)) State.result = some (.cid 0x7FF 12) ∧
      after (exec .rcid (loadCid [0x55, 0x55] .reduced7)) State.result = some (.cid 0x55 8) ∧
      after (exec .rcid (loadCid [0x55, 0x55] .reduced3)) State.result = some (.cid 5 4) := by decide +kernel

/-- S2. -/
theorem test_rcid_override :
    after (exec .rcid (loadCid [0x80, 0x10] .reduced7)) State.result = some (.cid 1 12) := by decide +kernel

/-- V4. -/
theorem test_rcid_forms :
    after (exec .rcidN16 (loadCid [0x80, 0x10] .normal16)) State.result = some (.cid 0x8010 16) ∧
      after (exec .rcidP1 (loadCid [0x80, 0x10] .reduced7)) State.result = some (.cid 1 12) ∧
      after (exec .rcidP0_11 (loadCid [0x7F, 0xFF] .reduced11)) State.result = some (.cid 0x7FF 12) ∧
      after (exec .rcidP0_7 (loadCid [0x55, 0x55] .reduced7)) State.result = some (.cid 0x55 8) ∧
      after (exec .rcidP0_3 (loadCid [0x55, 0x55] .reduced3)) State.result = some (.cid 5 4) := by decide +kernel

/-- V4. -/
theorem test_rcid_cut :
    after (exec .rcid (loadCid [0x80] .reduced3)) (fun t => (t.result, t.pos)) = some (.error .truncated 1, 1) := by decide +kernel

/-! ### Checksums (vectors S3, V7) -/

theorem test_crc_values :
    crc32 Params.default.doc.crc32Poly true [0x31, 0x32, 0x33, 0x34, 0x35, 0x36, 0x37, 0x38, 0x39] = 0xCBF43926 ∧
      crc32 Params.default.doc.crc32Poly false [0x31, 0x32, 0x33, 0x34, 0x35, 0x36, 0x37, 0x38, 0x39] = 0xFC891918 ∧
      crc16 Params.default.doc.crc16Poly true [0x31, 0x32, 0x33, 0x34, 0x35, 0x36, 0x37, 0x38, 0x39] = 0x906E ∧
      crc16 Params.default.doc.crc16Poly false [0x31, 0x32, 0x33, 0x34, 0x35, 0x36, 0x37, 0x38, 0x39] = 0xD64E := by decide +kernel

theorem test_crc_tables :
    t32 Params.default.doc.crc32Poly false 0xFF = 0xB1F740B4 ∧
      t32 Params.default.doc.crc32Poly true 0x01 = 0x77073096 ∧
      t16 Params.default.doc.crc16Poly false 0x80 = 0x9188 ∧
      t16 Params.default.doc.crc16Poly true 0xFF = 0x0F78 := by decide +kernel

theorem test_crc16 :
    after (exec .crc16 { loadMsg [0x31, 0x32, 0x33, 0x34, 0x35, 0x36, 0x37, 0x38, 0x39, 0xD6, 0x4E] 0 0 [] false with pos := 72 }) (fun t => (t.result, t.pos)) = some (.value 0xD64E, 72) := by decide +kernel

/-- S3. -/
theorem test_crc32_empty :
    after (exec .crc32 State.reset) State.result = some (.value 0) := by decide +kernel

theorem test_verify16 :
    after (exec .verify16 { loadMsg [0x31, 0x32, 0x33, 0x34, 0x35, 0x36, 0x37, 0x38, 0x39, 0xD6, 0x4E] 0 0 [] false with pos := 72 }) (fun t => (t.result, t.pos, t.out, t.warn)) =
      some (.flag true, 88, [rec .trailer16 72 16 0xD64E], []) := by decide +kernel

theorem test_verify16_mismatch :
    after (exec .trailer16 { loadMsg [0x31, 0x32, 0x33, 0x34, 0x35, 0x36, 0x37, 0x38, 0x39, 0xD6, 0x4F] 0 0 [] false with pos := 72 }) (fun t => (t.result, t.warn, t.wCrc)) =
      some (.flag false, [{ kind := .checksumMismatch, off := 72, info := 0xD64E }], true) := by decide +kernel

theorem test_verify32 :
    after (exec .verify32 { load [0x31, 0x32, 0x33, 0x34, 0x35, 0x36, 0x37, 0x38, 0x39, 0xCB, 0xF4, 0x39, 0x26] with pos := 72 }) (fun t => (t.result, t.pos)) = some (.flag true, 104) := by decide +kernel

theorem test_trailer32 :
    after (exec .trailer32 { load [0x31, 0x32, 0x33, 0x34, 0x35, 0x36, 0x37, 0x38, 0x39, 0xCB, 0xF4, 0x39, 0x26] with pos := 72 }) State.out =
      some [rec .trailer32 72 32 0xCBF43926] := by decide +kernel

/-! ### Single IEs (vector V5) -/

theorem test_ie_regular :
    after (exec .ieDlLegacy (load [0x71, 0x23, 0x45, 0x67, 0x80] [false])) (fun t => (t.state, t.pos, t.out)) =
      some (.done, 36, [rec .l0Type 0 4 7, rec (.regBody 0) 4 32 0x12345678]) := by decide +kernel

theorem test_ie_double :
    after (exec .regType10 (load [0xA1, 0x11, 0x11, 0x11, 0x12, 0x22, 0x22, 0x22, 0x20] [true])) (fun t => (t.state, t.pos, t.out)) =
      some (.done, 68,
        [rec .l0Type 0 4 10, rec (.regBody 0) 4 32 0x11111111, rec (.regBody 1) 36 32 0x22222222]) := by decide +kernel

theorem test_ie_cid_list :
    after (exec .regType3
          { (load [0x30, 0x28, 0x01, 0x0F, 0xF1, 0x23, 0x45, 0x67, 0x80] [false]) with
            session := { Params.default.sessionInit with cidType := .reduced7, incCid := true } }) (fun t => (t.state, t.pos, t.out)) =
      some (.done, 64,
        [rec .l0Type 0 4 3, rec .nCid 4 8 2, rec .cid 12 12 1, rec .cid 24 8 0x0F, rec (.regBody 0) 32 32 0xF1234567]) := by decide +kernel

theorem test_ie_uplink :
    after (exec .ieUlLegacy
          { (load [0x31, 0x23, 0x45, 0x67, 0x80] [false]) with session := { Params.default.sessionInit with incCid := true } }) (fun t => (t.state, t.pos, t.out)) =
      some (.done, 36, [rec .l0Type 0 4 3, rec (.regBody 0) 4 32 0x12345678]) := by decide +kernel

theorem test_ie_gap :
    after (exec .gapPapr (load [0xD0, 0x00, 0x00, 0x01, 0x00] [false])) (fun t => (t.state, t.pos, t.out)) =
      some (.done, 36, [rec .l0Type 0 4 13, rec (.regBody 0) 4 32 0x10]) := by decide +kernel

/-- S1. -/
theorem test_ie_truncated :
    after (exec .ieDlLegacy (load [0x70] [false])) (fun t => (t.err, t.errPos, t.pos, t.consumed, t.out)) =
      some (1, 4, 4, 4, [rec .l0Type 0 4 7]) := by decide +kernel

theorem test_ie_unassigned :
    after (exec .l0Unassigned11 (load [0xB0] [false])) (fun t => (t.state, t.err, t.errPos, t.warn, t.wUnk)) =
      some (.stopped, 2, 4, [{ kind := .unknownVariant, off := 0, info := 11 }], true) := by decide +kernel

theorem test_ie_cid_switch :
    after (exec .cidSwitch (load [0xF4, 0x00] [false])) (fun t => (t.state, t.pos, t.out.length, t.session.incCid)) =
      some (.done, 16, 4, true) := by decide +kernel

theorem test_ie_opaque :
    after (exec .channelMeasurement (load [0xF0, 0x02, 0xAB, 0xCD] [false])) (fun t => (t.state, t.pos, t.out)) =
      some (.done, 32,
        [rec .l0Type 0 4 15, rec .subtype 4 4 0, rec .length 8 8 2, passRec (.body (.l1 .channelMeasurement)) 16 16]) := by decide +kernel

theorem test_ie_unimplemented :
    after (exec .mimoBasic (load [0xF5, 0x02, 0x11, 0x22] [false])) (fun t => (t.pos, t.out.length, t.warn)) = some (32, 4, []) := by decide +kernel

theorem test_ie_unknown :
    after (exec .unknownL1Code9 (load [0xF9, 0x01, 0x77] [false])) (fun t => (t.state, t.pos, t.warn)) =
      some (.done, 24, [{ kind := .unknownVariant, off := 0, info := 9 }]) := by decide +kernel

theorem test_ie_unknown2 :
    after (exec .extended2 (load [0xEF, 0x01, 0xAA] [false])) (fun t => (t.state, t.pos, t.warn)) =
      some (.done, 24, [{ kind := .unknownVariant, off := 0, info := 15 }]) := by decide +kernel

theorem test_ie_past_buffer :
    after (exec .ieDlLegacy (load [0xF0, 0x03, 0xAA, 0xBB] [false])) (fun t => (t.state, t.errPos, t.limstk)) = some (.stopped, 16, [40]) := by decide +kernel

theorem test_ie_past_limit :
    after (exec .ieDlLegacy { load [0xF9, 0x02, 0xAB, 0xCD] with limstk := [24] })
        (fun t => (t.err, t.errPos, t.out.length, t.limstk, t.warn)) = some (4, 16, 3, [24], []) := by decide +kernel

theorem test_ie_hook :
    after
        (exec .channelMeasurement
          (withCfg
            { Params.default with
              hooks := [(.l1 .channelMeasurement, { prog := .read 0 (.lit 8) (some (.lit 0)) })] }
            (load [0xF0, 0x02, 0xAB, 0xCD])))
        (fun t => (t.pos, t.out.drop 3, t.warn)) =
      some (32, [rec (.hook (.l1 .channelMeasurement) 0) 16 8 0xAB],
        [{ kind := .lengthConsistency, off := 24, info := 8 }]) := by decide +kernel

theorem test_ie_uplink_no_width :
    refusalOf (exec .ieUlLegacy (load [0xF0, 0x00] [false])) = some (.noParameter .l1LenBitsUl) := by decide +kernel

theorem test_ie_no_compact_map :
    refusalOf (exec .ieDlCompact State.reset) = some .noCompactMap := by decide +kernel

/-! ### The container (vector V6) -/

/-- The test hooks of V6: an RCID and a nibble before, a nibble per layer, nothing after. -/
def v6Cfg (l : Layout) (k : LoopKind) (c : Bool) : Params :=
  { Params.default with
    nSubBurstBits := some 4, crc16Reflect := some false
    sbLoop := [((.dl, l), k)], sbCrc := [((.dl, l, false), false)], contCrc := [((.dl, l, false), c)]
    hooks :=
      [(.sbPre .dl l, { prog := .seq (.rcid 0 1 true) (.read 0 (.lit 4) (some (.lit 0))) }),
       (.sbLayer .dl l, { prog := .read 0 (.lit 4) (some (.lit 0)) }), (.sbPost .dl l, { prog := .nop })] }

/-- V6a. -/
theorem test_container_count :
    after (exec .harqMap (withCfg (v6Cfg .chase .count false) (load [0xE7, 0x06, 0x01, 0xAA, 0xAA, 0x1B, 0xBB, 0xB2])))
        (fun t => (t.state, t.pos, t.out.drop 3, t.warn)) =
      some (.done, 64,
        [rec .sbMode 16 4 0, rec .nSubBurst 20 4 1, rec .cid 24 16 0xAAAA, rec (.hook (.sbPre .dl .chase) 0) 40 4 1,
         rec .cid 44 16 0xBBBB, rec (.hook (.sbPre .dl .chase) 0) 60 4 2], []) := by decide +kernel

/-- V6b. -/
theorem test_container_trailer :
    after
        (exec .harqMap
          (withCfg (v6Cfg .chase .count true)
            (load [0xE7, 0x08, 0x01, 0xAA, 0xAA, 0x1B, 0xBB, 0xB2, 0x00, 0x00])))
        (fun t => (t.pos, t.out.getLast?, t.warn)) =
      some (80, some (rec .trailer16 64 16 0), [{ kind := .checksumMismatch, off := 64, info := 0xB706 }]) := by decide +kernel

/-- V6c from its mode field on, moved to the start of a buffer. -/
theorem test_mode_layers :
    after
        (exec .sbMimoChase
          { withCfg (v6Cfg .mimoChase .length false) (load [0x35, 0x9A, 0xB9, 0x23, 0x7C, 0xD0]) with
            session := { Params.default.sessionInit with cidType := .reduced3, nLayer := 2 }, limstk := [44] })
        (fun t => (t.state, t.pos, t.out.map OutRec.off)) =
      some (.done, 44, [0, 4, 8, 12, 16, 20, 32, 36, 40]) := by decide +kernel

/-- V6d. -/
theorem test_container_unknown :
    after (exec .harqMap (load [0xE7, 0x02, 0x9A, 0xBC] [false])) (fun t => (t.state, t.pos, t.out.drop 3, t.warn)) =
      some (.done, 32, [rec .sbMode 16 4 9, passRec .reservedSkipped 20 12],
        [{ kind := .unknownVariant, off := 16, info := 9 }]) := by decide +kernel

/-! ### Messages (vectors V8, programs P2, P3) -/

theorem test_msg_offset :
    after (exec .msgDlMap (loadMsg [0x07, 0x12, 0x34, 0x56, 0x78] 4 36 [false] false)) (fun t => (t.state, t.pos, t.consumed, t.out)) =
      some (.done, 40, 36, [rec .l0Type 4 4 7, rec (.regBody 0) 8 32 0x12345678]) := by decide +kernel

theorem test_msg_uplink :
    after (exec .msgUlMap (loadMsg [0x31, 0x23, 0x45, 0x67, 0x80] 0 36 [false] false)) (fun t => (t.state, t.dir, t.consumed)) = some (.done, .ul, 40) := by decide +kernel

/-- P3. -/
theorem test_msg_raas :
    after (exec .msgRaasPrivateMap (loadMsg [0x71, 0x23, 0x45, 0x67, 0x80, 0x00, 0xDE] 0 36 [false] false)) (fun t => (t.state, t.pos, t.out.drop 2, t.warn)) =
      some (.done, 56, [rec .trailer16 40 16 0x00DE], []) := by decide +kernel

theorem test_msg_reserved :
    refusalOf (exec (.msgReservedKind5 0) State.reset) = some .badArgument := by decide +kernel

/-- P2. -/
theorem test_msg_p2 :
    after (exec .msgDlMap (loadMsg [0x71, 0x23, 0x45, 0x67, 0x8F, 0x40, 0x03, 0x01, 0xBE, 0xEF, 0x0A, 0x0B, 0x0C, 0x0D, 0xEF, 0x01, 0xAA, 0xF1, 0x10, 0x00] 0 160 [false, false] false))
        (fun t => (t.err, t.errPos, t.limstk, t.session.incCid, t.warn)) =
      some (4, 152, [160], true, [{ kind := .unknownVariant, off := 112, info := 15 }]) := by decide +kernel

/-- P2. -/
theorem test_msg_p2_records :
    after (exec .msgDlMap (loadMsg [0x71, 0x23, 0x45, 0x67, 0x8F, 0x40, 0x03, 0x01, 0xBE, 0xEF, 0x0A, 0x0B, 0x0C, 0x0D, 0xEF, 0x01, 0xAA, 0xF1, 0x10, 0x00] 0 160 [false, false] false)) (fun t => (t.out.length, t.out.drop 6 |>.take 4)) =
      some (17, [rec .l0Type 52 4 3, rec .nCid 56 8 1, rec .cid 64 16 0xBEEF, rec (.regBody 0) 80 32 0x0A0B0C0D]) := by decide +kernel

/-- What a command leaves of the two session fields that hooks write, and its result. -/
def written (p : Params) (i : Instr) (bs : List Nat) : Option (BitVec 2 × CidType × Response) :=
  after (exec i (withCfg p (load bs))) fun t => (t.session.nLayer, t.session.cidType, t.result)

/-- 60_exceptions.md R284: the write of `n_layer` that precedes the failing read stays. -/
theorem test_hook_write_stays :
    written
        { Params.default with
          hooks :=
            [(.l1 .aas, { prog := .control .dedicatedMimoDl }),
             (.control .dedicatedMimoDl, { prog := .seq (.writeNLayer (.lit 7)) (.read 0 (.lit 9) none) })] }
        .aas [0xF2, 0x01, 0xAB, 0xCD] =
      some (3, .normal16, .error .truncated 16) := by decide +kernel

/-- 42_ie_dispatch.md R187: the hook of an AAS IE may not write the session. -/
theorem test_hook_write_refused :
    written { Params.default with hooks := [(.l1 .aas, { prog := .writeNLayer (.lit 1) })] }
        .aas [0xF2, 0x01, 0xAB, 0xCD] = none := by decide +kernel

/-- 45_message_decoders.md R263: the header of a Compact message writes `cid_type`. -/
theorem test_header_writes_cid_type :
    written
        { Params.default with
          compactMap := some { codeBits := 0, table := [(0, .safety)] }
          hooks :=
            [(.msgHdr .compactDlMap, { prog := .seq (.writeCidType (.lit 2)) (.read 0 (.lit 32) none) })] }
        .msgCompactDlMap [1, 2] =
      some (0, .reduced7, .error .truncated 0) := by decide +kernel

/-- 42_ie_dispatch.md R180, 10_state.md R36: a hook reads how many symbol counts there are, returns that many, and another
reads them. -/
theorem test_symbol_counts :
    after
        (exec .msgCompactDlMap
          (withCfg
            { Params.default with
              compactMap := some { codeBits := 4, table := [(1, .formatConfiguration), (2, .bandAmc)] }
              hooks :=
                [(.compact .formatConfiguration,
                  { prog :=
                      .seq (.read 0 (.lit 4) none)
                        (.loop (.slot 0)
                          (.seq (.read 1 (.lit 4) none)
                            (.seq (.assignAt (.add (.lit 10) (.slot 2)) (.slot 1))
                              (.assign 2 (.add (.slot 2) (.lit 1))))))
                    rets := [some (.lit 3), some (.lit 0), some (.lit 0)], more := some (.lit 10, .slot 0) }),
                 (.compact .bandAmc,
                  { prog :=
                      .seq
                        (.warn .unknownVariant (.session .symbolCountNumber)
                          (.symbolCount (.sub (.session .symbolCountNumber) (.lit 1))))
                        (.skip .drem none) }),
                 (.msgHdr .compactDlMap, { prog := .nop, rets := [some (.lit 24), none, some (.lit 0)] })] }
            (loadMsg [0x13, 0x70, 0x92, 0x00] 0 24 [] false)))
        (fun t => (t.session.fmtCfg.symbolCounts, t.session.cidType, t.warn)) =
      some ([7, 0, 9], .reduced3, [{ kind := .unknownVariant, off := 3, info := 9 }]) := by decide +kernel

/-- 45_message_decoders.md R265: a legacy map has no trailer, whatever its header hook returns. -/
theorem test_legacy_no_trailer :
    after
        (exec .msgDlMap
          (withCfg
            { Params.default with hooks := [(.msgHdr .dlMap, { prog := .nop, rets := [none, none, some (.lit 1)] })] }
            (loadMsg [0x71, 0x23, 0x45, 0x67, 0x80, 0, 0, 0, 0] 0 36 [false] false)))
        (fun t => (t.state, t.consumed, t.out.length)) =
      some (.done, 40, 2) := by decide +kernel

/-- The test hooks of V8b, for one kind of header; the map has one kind of IE, of a byte. -/
def v8Cfg : Params :=
  let h : HookDef :=
    { prog := .read 0 (.lit 8) (some (.lit 0))
      rets := [some (.mul (.lit 8) (.div (.slot 0) (.lit 2))), some (.mod (.slot 0) (.lit 2)), some (.lit 1)] }
  { Params.default with
    compactMap := some { codeBits := 0, table := [(0, .other 0)] }
    hooks :=
      [(.msgHdr .compactDlMap, h), (.msgHdr .compactUlMap, h),
       (.compact (.other 0), { prog := .read 0 (.lit 8) (some (.lit 0)) })] }

/-- V8b. -/
theorem test_msg_appended :
    after
        (exec .msgCompactDlMap
          (withCfg v8Cfg
            (load [0x05, 0xA1, 0xA2, 0x76, 0x4E, 0x54, 0x95, 0x02, 0xB1, 0xCF, 0x89, 0xF3, 0x67])))
        (fun t => (t.consumed, t.msgStartByte, t.out.map fun r => (r.off, r.val))) =
      some (104, 7,
        [(0, some 5), (8, some 0xA1), (16, some 0xA2), (24, some 0x764E5495), (56, some 2), (64, some 0xB1),
         (72, some 0xCF89F367)]) := by decide +kernel

/-! ### The step (program P1) -/

/-- P1, line 4. -/
theorem test_step_p1 :
    after
        (step { load [0x12, 0x34, 0x56, 0x78, 0x9A, 0xBC] with pos := 8, limstk := [32], port := [.command 0x10000000C none] })
        (fun t => (t.result, t.pos, t.port)) = some (.value 0x345, 20, []) := by decide +kernel

/-- 30_encoding.md R92. -/
theorem test_step_reserved :
    refusalOf (step { State.reset with port := [.command 0x100000040 none] }) = some .badArgument := by decide +kernel

/-! ### Witnesses, in the order of Certificates/Slice0/Obligations.lean -/

theorem witness_EncodeThenDecode :
    (Instr.read 32).wf = true ∧ (Instr.readn 8).wf = true ∧ (Instr.skipn (2 ^ 30 - 1)).wf = true := by decide +kernel

theorem witness_DecodeThenEncodeCommand :
    decodeCmd 0x100000020#36 = .ok (.read 32) := by decide +kernel

/-- A state whose port holds one request. -/
def asked (r : Request) : State := { load [0x71, 0x23, 0x45, 0x67, 0x80] with port := [r] }

/-- What accompanies a message. -/
def accomp : Accompaniment :=
  { bytes := [0x71], start := 0, msgLenBits := 8, cqichIdWidth := 9, includeCor2Changes := true, altSamples := [] }

theorem witness_StepRunsTheRequest :
    State.reset.port = [] ∧
      (asked (.wire (.ie .dl))).port = [.wire (.ie .dl)] ∧
      fetchInstr (asked (.wire (.ie .dl))) (.wire (.ie .dl)) = .ok .regType7 ∧
      (asked (.command 0x300000000 none)).port = [.command 0x300000000 none] ∧ decodeCmd 0x300000000#36 = .ok .padn ∧
      (asked (.command 0xE00000000 (some accomp))).port = [.command 0xE00000000 (some accomp)] ∧
      decodeCmd 0xE00000000#36 = .ok .msgDlMap ∧ loadsBuffer .msgDlMap = true := by decide +kernel

theorem witness_ReservedCommandsAreRefused :
    State.reset.cfg.doc.readMaxBits = 32 ∧ 32 < (33 : BitVec 6).toNat ∧
      (asked (.command 0x100000040 none)).port = [.command 0x100000040 none] ∧
      decodeCmd 0x100000040#36 = .error .badArgument := by decide +kernel

theorem witness_ReadReturnsTheField :
    32 < (33 : BitVec 6).toNat ∧ 4 * 8 ≤ State.reset.cfg.doc.readMaxBits := by decide +kernel

theorem witness_SkipMovesTheCursor :
    4 * (2 ^ 30 - 1) < 2 ^ 32 := by decide +kernel

theorem witness_PadsReachTheBoundary :
    (load [0]).limstk = [] ∧ { load [0] with pos := 8 }.pos ≤ { load [0] with pos := 8 }.total := by decide +kernel

theorem witness_PopLimitClosesARegion :
    State.reset.limstk = [] ∧ { load [0] with limstk := [8] }.limstk = 8 :: [] := by decide +kernel

theorem witness_DoubleReads :
    (Instr.rd48, 16) ∈ [(Instr.rd48, 16), (Instr.rd64, 32)] ∧ (Instr.rd64, 32) ∈ [(Instr.rd48, 16), (Instr.rd64, 32)] ∧
      32 ≤ State.reset.cfg.doc.readMaxBits := by decide +kernel

theorem witness_RcidFollowsTheSession :
    16 ≤ State.reset.cfg.doc.readMaxBits := by decide +kernel

theorem witness_WireFormsRead :
    32 ≤ (load [0]).cfg.doc.readMaxBits ∧
      (load [0, 0, 0, 0]).pos ≤ (load [0, 0, 0, 0]).total ∧ { load [0, 0] with pos := 0 }.pos + 16 ≤ (load [0, 0]).effBound ∧
      (load [0, 0, 0, 0]).pos + 32 ≤ (load [0, 0, 0, 0]).effBound := by decide +kernel

theorem witness_RcidWidthIsOneOfFour :
    ∀ p ∈ [(CidType.normal16, 0x5555, 16), (.reduced11, 0x555, 12), (.reduced7, 0x55, 8), (.reduced3, 5, 4)],
      after (exec .rcid (loadCid [0x55, 0x55] p.1)) State.result = some (.cid p.2.1 p.2.2) := by decide +kernel

theorem witness_ChecksumsCoverTheSpan :
    { load [0x31, 0x32] with pos := 16 }.pos ≤ { load [0x31, 0x32] with pos := 16 }.total := by decide +kernel

theorem witness_VerifySixteen :
    16 ≤ (load [0, 0]).cfg.doc.readMaxBits ∧ (load [0, 0]).pos ≤ (load [0, 0]).total ∧
      { load [0, 0] with pos := 16 }.pos ≤ (load [0, 0]).total := by decide +kernel

theorem witness_VerifyThirtyTwo :
    32 ≤ (load [0, 0, 0, 0]).cfg.doc.readMaxBits ∧ (load [0, 0, 0, 0]).pos ≤ (load [0, 0, 0, 0]).total ∧
      { load [0, 0] with pos := 16 }.pos ≤ (load [0, 0]).total := by decide +kernel

/-- A legal state of a downlink map without CID lists: `inc_cid` is 0. -/
def plain (bs : List Nat) (alt : List Bool) : State := load bs alt

theorem witness_RegularIe :
    Instr.regType0 ∈ regularRows ∧ (plain [0x71] []).cfg.doc = {} ∧ (plain [0x71] []).inp.cqichIdWidth.toNat ≤ 9 ∧
      ¬((plain [0x71] []).family = .legacy ∧ (plain [0x71] []).dir = .dl ∧ (plain [0x71] []).session.incCid = true) ∧
      (plain [] []).effBound < (plain [] []).pos + 4 ∧
      { plain [0x71] [true] with limstk := [4] }.pos + 4 ≤ { plain [0x71] [true] with limstk := [4] }.effBound ∧
      (plain [0x71] [true]).altSamples = [true] ∧ (plain [0x71] []).altSamples = [] := by decide +kernel

/-- A downlink map with `inc_cid` = 1. -/
def listed (bs : List Nat) : State :=
  { load bs [true] with session := { Params.default.sessionInit with incCid := true } }

theorem witness_RegularIeWithCidList :
    let s := listed [0x30, 0x10, 0, 0, 0, 0, 0, 0, 0, 0, 0, 0, 0, 0]
    Instr.gapPapr ∈ regularRows ∧ s.cfg.doc = {} ∧ s.inp.cqichIdWidth.toNat ≤ 9 ∧ s.family = .legacy ∧ s.dir = .dl ∧
      s.session.incCid = true ∧ s.cfg.ncidBits ≤ 32 ∧ s.altSamples = [true] ∧
      s.pos + 4 + s.cfg.ncidBits + 16 * memRead s.mem (s.pos + 4) s.cfg.ncidBits + 64 ≤ s.effBound := by decide +kernel

theorem witness_UnassignedCodes :
    Instr.l0Unassigned12 ∈ [Instr.l0Unassigned11, .l0Unassigned12] ∧
      (withCfg { Params.default with l0Unassigned := .regular } (load [0xC0])).cfg.l0Unassigned = .regular ∧
      (load [0xC0]).cfg.l0Unassigned = .stop ∧ (load [0xC0]).cfg.doc = {} ∧ (load [0xC0]).inp.cqichIdWidth.toNat ≤ 9 ∧
      { load [0xC0] with limstk := [4] }.pos + 4 ≤ { load [0xC0] with limstk := [4] }.effBound := by decide +kernel

/-- An Extended IE of two bytes of body that ends with the buffer, three limits open. -/
def ext (c : Params) : State := { withCfg c (load [0xF0, 0x02, 0xAB, 0xCD]) with limstk := [32, 32, 32] }

/-- The uplink form, with a length field of 12 bits. -/
def extUl (c : Params) : State :=
  { withCfg { c with l1LenBitsUl := some 12 } (load [0xF0, 0x00, 0x1A, 0xBC, 0xD0]) with dir := .ul, limstk := [28] }

theorem ext_fits (c : Params) (hd : c.doc = {}) (h : c.lenUnitBits = 8) : (ext c).ExtFits 8 := by
  have hc : c = { c with doc := {}, lenUnitBits := 8 } := by rw [← hd, ← h]
  have m : memRead (ext Params.default).mem 8 8 = 2 := by decide +kernel
  rw [hc]
  exact
    { legal := (by decide : (9 : BitVec 4).toNat ≤ 9), type_width := (by decide : 4 ≤ 32)
      subtype_width := (by decide : 4 ≤ 32), length_width := (by decide : 8 ≤ 32), room := (by decide : 3 < 4)
      inside := (by rw [m] : 16 + memRead (ext Params.default).mem 8 8 * 8 ≤ 32) }

theorem ext_width (c : Params) (hd : c.doc = {}) : (ext c).l1LenBits = some 8 := by
  change some c.doc.l1LenBitsDl = some 8
  rw [hd]

theorem extUl_fits (c : Params) (hd : c.doc = {}) (h : c.lenUnitBits = 8) : (extUl c).ExtFits 12 := by
  have hc : c = { c with doc := {}, lenUnitBits := 8 } := by rw [← hd, ← h]
  have m : memRead (extUl Params.default).mem 8 12 = 1 := by decide +kernel
  rw [hc]
  exact
    { legal := (by decide : (9 : BitVec 4).toNat ≤ 9), type_width := (by decide : 4 ≤ 32)
      subtype_width := (by decide : 4 ≤ 32), length_width := (by decide : 12 ≤ 32), room := (by decide : 1 < 4)
      inside := (by rw [m] : 20 + memRead (extUl Params.default).mem 8 12 * 8 ≤ 28) }

theorem extUl_width (c : Params) : (extUl c).l1LenBits = some 12 := rfl

/-- One hook. -/
def hooked (h : HookId) (p : HookDef) : Params := { Params.default with hooks := [(h, p)] }

theorem witness_PlainKindsAreOneRecord :
    (Instr.aas, HookId.l1 .aas) ∈ plainRows1 ∧ (extUl Params.default).l1LenBits = some 12 ∧
      (extUl Params.default).ExtFits 12 ∧ (extUl Params.default).cfg.hooks.lookup (.l1 .aas) = none ∧
      (Instr.mbsMap, HookId.l2 .mbsMap) ∈ plainRows2 ∧ (ext Params.default).ExtFits 8 ∧
      (ext Params.default).cfg.hooks.lookup (.l2 .mbsMap) = none := ⟨by decide, extUl_width _, extUl_fits _ rfl rfl, rfl, by decide, ext_fits _ rfl rfl, rfl⟩

theorem witness_CloseSkipsWhatTheHookLeft :
    let h : HookDef := { prog := .skip (.lit 16) none }
    let g : HookDef := { prog := .nop }
    let a := ext (hooked (.l1 .aas) h)
    let b := ext (hooked (.l2 .mbsMap) g)
    (Instr.aas, HookId.l1 .aas) ∈ plainRows1 ∧ a.l1LenBits = some 8 ∧ a.ExtFits 8 ∧ 16 ≤ a.bodyBits 8 ∧
      a.cfg.hooks.lookup (.l1 .aas) = some h ∧
      (Instr.mbsMap, HookId.l2 .mbsMap) ∈ plainRows2 ∧ b.ExtFits b.l2LenBits ∧ 0 ≤ b.bodyBits b.l2LenBits ∧
      b.cfg.hooks.lookup (.l2 .mbsMap) = some g :=
  ⟨by decide, rfl, ext_fits _ rfl rfl, by decide +kernel, rfl, by decide, ext_fits _ rfl rfl, Nat.zero_le _, rfl⟩

/-- Vector V5: a hook that consumes eight of the sixteen bits of its body. -/
theorem test_close_warns :
    after (exec .aas (ext (hooked (.l1 .aas) { prog := .read 0 (.lit 8) (some (.lit 0)) })))
        (fun t => (t.state, t.pos, t.warn)) =
      some (.done, 32, [{ kind := .lengthConsistency, off := 24, info := 8 }]) := by decide +kernel

/-- 42_ie_dispatch.md R180: a hook emits and warns at a field it has read, and decides by its value. -/
theorem test_hook_emit_and_warn :
    after
        (exec .aas
          (ext
            (hooked (.l1 .aas)
              { prog :=
                  .seq (.read 0 (.lit 16) none)
                    (.seq (.emit (.lit 0) (.sub .pos (.lit 16)) (.lit 16) false)
                      (.seq (.ite (.eq (.slot 0) (.lit 0xABCD)) (.emit (.lit 1) (.sub .pos (.lit 4)) (.lit 4) false) .nop)
                        (.warn .unknownVariant (.sub .pos (.lit 8)) (.slot 0)))) })))
        (fun t => (t.out.drop 3, t.warn)) =
      some
        ([rec (.hook (.l1 .aas) 0) 16 16 0xABCD, rec (.hook (.l1 .aas) 1) 28 4 0xD],
          [{ kind := .unknownVariant, off := 24, info := 0xABCD }]) := by decide +kernel

/-- The bits of the header are not the hook's to emit. -/
theorem test_hook_emit_refused :
    refusalOf (exec .aas (ext (hooked (.l1 .aas) { prog := .emit (.lit 0) (.lit 8) (.lit 8) false }))) =
      some .hookContract := by decide +kernel

/-- 42_ie_dispatch.md R180, 43_sub_burst.md R229: hooks that call one another seventeen deep, to the end of the body. -/
theorem test_hook_calls_nest :
    after
        (exec .aas
          (ext
            { Params.default with
              hooks :=
                [(.l1 .aas, { prog := .control .harqControl }),
                 (.control .harqControl,
                  { prog := .ite .drem (.seq (.read 0 (.lit 1) none) (.control .harqControl)) .nop })] }))
        (fun t => (t.state, t.pos, t.warn)) =
      some (.done, 32, []) := by decide +kernel

/-- 42_ie_dispatch.md R172: a hook issues a Bracket of the kind Unknown for a sub-type that the map knows. -/
theorem test_nested_bracket_unknown :
    after
        (exec .aas
          (withCfg (hooked (.l1 .aas) { prog := .nestedIe (.given none) (.lit 1) (.lit 2) (.lit 16) (.lit 3) })
            (load [0xF2, 0x02, 0xAB, 0xCD])))
        (fun t => (t.state, t.out.drop 3, t.warn)) =
      some (.done, [passRec .reservedSkipped 16 16], [{ kind := .unknownVariant, off := 3, info := 2 }]) := by decide +kernel

theorem witness_StcZoneWritesTheSession :
    let h : HookDef := { prog := .skip .drem none, rets := [some (.lit 3), some (.lit 1)] }
    let a := ext (hooked (.l1 .stcZone) h)
    a.l1LenBits = some 8 ∧ a.ExtFits 8 ∧ a.cfg.hooks.lookup (.l1 .stcZone) = some h ∧
      (ext Params.default).l1LenBits = some 8 ∧ (ext Params.default).ExtFits 8 ∧
      (ext Params.default).cfg.hooks.lookup (.l1 .stcZone) = none := ⟨rfl, ext_fits _ rfl rfl, rfl, rfl, ext_fits _ rfl rfl, rfl⟩

theorem witness_CidSwitchFlipsIncCid :
    (extUl Params.default).l1LenBits = some 12 ∧ (extUl Params.default).ExtFits 12 := ⟨rfl, extUl_fits _ rfl rfl⟩

theorem witness_UnimplementedKindsAreSkipped :
    Instr.mimoBasic ∈ passRows1 ∧ (extUl Params.default).l1LenBits = some 12 ∧ (extUl Params.default).ExtFits 12 ∧
      Instr.handoverVariant3 ∈ passRows2 ∧ (ext Params.default).ExtFits 8 := ⟨by decide, rfl, extUl_fits _ rfl rfl, by decide, ext_fits _ rfl rfl⟩

theorem witness_UnknownSubtypesAreSkipped :
    Instr.unknownL1Code14 ∈ unknownRows1 ∧ (extUl Params.default).l1LenBits = some 12 ∧
      (extUl Params.default).ExtFits 12 ∧ Instr.unknownL2Code15 ∈ unknownRows2 ∧ (ext Params.default).ExtFits 8 := ⟨by decide, rfl, extUl_fits _ rfl rfl, by decide, ext_fits _ rfl rfl⟩

theorem witness_UnfittingLengthStops :
    let a : State := { load [0xF0, 0x02, 0xAB, 0xCD] with limstk := [31, 32, 32] }
    let b : State := load [0xE0, 0x03, 0xAB, 0xCD]
    a.ExtLegal 8 ∧ a.bodyStart 8 ≤ a.effBound ∧ Instr.cidSwitch ∈ level1Rows ∧ a.l1LenBits = some 8 ∧
      a.limstk = [31, 32, 32] ∧ 2 + 1 < a.cfg.doc.limDepth ∧ 31 < a.bodyEnd 8 ∧
      b.ExtLegal 8 ∧ b.bodyStart 8 ≤ b.effBound ∧ Instr.mbsMap ∈ level2Rows ∧ 8 = b.l2LenBits ∧ b.limstk = [] ∧
      0 < b.cfg.doc.limDepth ∧ b.total < b.bodyEnd 8 ∧ Instr.mbsMap ≠ .harqMap ∧ b.cfg.hooks = [] := by
  refine ⟨⟨?_, ?_, ?_, ?_⟩, ?_, ?_, ?_, ?_, ?_, ?_, ⟨?_, ?_, ?_, ?_⟩, ?_⟩ <;> decide +kernel

theorem witness_EscapesRunTheirKind :
    let m : Maps := { Maps.default with l1Ul := some [(0, .aas)], l2Ul := some [(15, .mbsMap)] }
    let a := extUl { Params.default with maps := m }
    (ext Params.default).dir = .dl ∧ a.dir = .ul ∧ a.cfg.maps.l1Ul = some [(0, .aas)] ∧
      [(0, L1Kind.aas)].lookup a.subtypeAt = some .aas ∧ a.cfg.maps.l2Ul = some [(15, .mbsMap)] := by decide +kernel

theorem witness_EscapesComplete :
    let m : Maps := { Maps.default with l1Ul := some [] }
    let a := extUl { Params.default with maps := m }
    (ext Params.default).cfg.hooks = [] ∧ (ext Params.default).ExtFits 8 ∧ (ext Params.default).dir = .dl ∧
      (ext Params.default).cfg.maps.l2Dl.lookup (ext Params.default).subtypeAt ≠ some .harqMap ∧
      a.cfg.hooks = [] ∧ a.cfg.l1LenBitsUl = some 12 ∧ a.cfg.maps.l1Ul = some [] ∧ a.ExtFits 12 := ⟨rfl, ext_fits _ rfl rfl, rfl, by decide, rfl, rfl, rfl, extUl_fits _ rfl rfl⟩

theorem witness_UnknownModesAreSkipped :
    let s : State := { load [0x70] with limstk := [4] }
    Instr.unknownSbMode7 ∈ unknownModeRows ∧ 4 ≤ s.cfg.doc.readMaxBits ∧ s.inp.cqichIdWidth.toNat ≤ 9 ∧ s.pos + 4 ≤ s.effBound ∧
      ∀ b ∈ s.limstk.head?, b ≤ s.total := by decide +kernel

/-- The hooks of the three parts of a downlink layout, and others. -/
def sbHooks (l : Layout) (pre layer : HookProg) (hs : List (HookId × HookDef)) : List (HookId × HookDef) :=
  [(.sbPre .dl l, { prog := pre }), (.sbLayer .dl l, { prog := layer }), (.sbPost .dl l, { prog := .nop })] ++ hs

/-- A configuration of the container. -/
def sbCfg (l : Layout) (k : LoopKind) (b c : Bool) (hs : List (HookId × HookDef)) : Params :=
  { Params.default with
    nSubBurstBits := some 4, sbLoop := [((.dl, l), k)], sbCrc := [((.dl, l, false), b)], contCrc := [((.dl, l, false), c)]
    crc16Reflect := some false, hooks := hs }

/-- The container of a statement about its hooks: a state at the mode field of MIMO_STC, a LAYER hook of four bits. -/
def layerState (pre : HookProg) (hs : List (HookId × HookDef)) : State :=
  withCfg (sbCfg .mimoStc .count true true (sbHooks .mimoStc pre (.read 0 (.lit 4) (some (.lit 0))) hs))
    (load [0x60, 0, 0, 0, 0, 0, 0, 0, 0])

/-- A PRE hook that calls a Dedicated-MIMO control, which writes `n_layer`. -/
def preControl : HookProg := .seq (.rcid 0 1 false) (.control .dedicatedMimoUl)
def nLayerControl : List (HookId × HookDef) := [(.control .dedicatedMimoUl, { prog := .writeNLayer (.lit 3) })]

theorem witness_CountedSubBursts :
    (Instr.sbMimoStc, Layout.mimoStc) ∈ layoutRows ∧
      (∀ x ∈ [(HookProg.rcid 0 1 true, []), (preControl, nLayerControl)],
        let s := layerState x.1 x.2
        s.cfg.doc = {} ∧ s.inp.cqichIdWidth.toNat ≤ 9 ∧
          s.cfg.sbLoop.lookup (s.dir, .mimoStc) = some .count ∧ s.cfg.nSubBurstBits = some 4 ∧
          s.cfg.sbCrc.lookup (s.dir, .mimoStc, s.inp.includeCor2Changes) = some true ∧
          s.cfg.contCrc.lookup (s.dir, .mimoStc, s.inp.includeCor2Changes) = some true ∧
          s.cfg.hooks.lookup (.sbLayer s.dir .mimoStc) = some { prog := .read 0 (.lit 4) (some (.lit 0)) } ∧
          s.cfg.hooks.lookup (.sbPost s.dir .mimoStc) = some { prog := .nop } ∧
          s.cfg.hooks.lookup (.sbPre s.dir .mimoStc) = some { prog := x.1 } ∧
          s.pos + 4 + 4 + 44 * (memRead s.mem (s.pos + 4) 4 + 1) + 16 ≤ s.effBound) ∧
      (layerState preControl nLayerControl).cfg.hooks.lookup (.control .dedicatedMimoUl) =
        some { prog := .writeNLayer (.lit (3 : BitVec 2).toNat) } := by decide +kernel

/-- 43_sub_burst.md R225, R226, R229: the PRE hook's `n_layer` counts the layers of its own sub-burst, and its identifier
is emitted. -/
theorem test_layers_follow_pre :
    after (exec .sbMimoStc (layerState preControl nLayerControl))
        (fun t => (t.session.nLayer, t.out.countP fun r => decide (r.id = .hook (.sbLayer .dl .mimoStc) 0),
          t.out.countP fun r => decide (r.id = .cid))) =
      some (3, 3, 1) := by decide +kernel

/-- 43_sub_burst.md R225: a PRE hook that reads four bits and issues no RCID breaks its contract. -/
theorem test_pre_without_rcid :
    refusalOf (exec .sbMimoStc (layerState (.read 0 (.lit 4) none) [])) = some .hookContract := by decide +kernel

/-- A container of the layout IR_CC under `Length`. -/
def untilState (hs : List (HookId × HookDef)) : State :=
  { withCfg (sbCfg .irCc .length false false hs) (load [0x2A, 0xBC, 0xD0]) with limstk := [20] }

theorem witness_SubBurstsUntilTheLength :
    (Instr.sbIrCc, Layout.irCc) ∈ layoutRows ∧
      (∀ hs ∈ [[], sbHooks .irCc (.rcid 0 1 true) .nop []],
        let s := untilState hs
        s.inp.cqichIdWidth.toNat ≤ 9 ∧ (∀ b ∈ s.limstk.head?, b ≤ s.total) ∧ s.pos + 4 ≤ s.effBound ∧
          s.cfg.sbCrc.lookup (s.dir, .irCc, s.inp.includeCor2Changes) = some false ∧
          s.cfg.contCrc.lookup (s.dir, .irCc, s.inp.includeCor2Changes) = some false ∧
          16 ≤ s.cfg.doc.readMaxBits ∧ s.cfg.sbLoop.lookup (s.dir, .irCc) = some .length) ∧
      (∀ x ∈ [(HookId.sbPre .dl .irCc, HookProg.rcid 0 1 true), (.sbLayer .dl .irCc, .nop), (.sbPost .dl .irCc, .nop)],
        (untilState (sbHooks .irCc (.rcid 0 1 true) .nop [])).cfg.hooks.lookup x.1 = some { prog := x.2 }) ∧
      (untilState []).session.cidType = .normal16 ∧ (untilState []).effBound = (untilState []).pos + 4 + 16 * 1 ∧
      (∀ id ∈ [HookId.sbPre .dl .irCc, .sbLayer .dl .irCc, .sbPost .dl .irCc],
        (untilState []).cfg.hooks.lookup id = none) ∧
      (sbCfg .irCc .count false false []).sbLoop.lookup (.dl, .irCc) = some .count ∧
      (sbCfg .irCc .count false false []).nSubBurstBits = some 4 ∧
      (untilState []).pos + 4 + 4 ≤ (untilState []).effBound := by
  decide +kernel

/-- A HARQ map whose container, counted and with every trailer, fills it. -/
def harqState : State :=
  withCfg (sbCfg .chase .count true true (sbHooks .chase (.rcid 0 1 true) .nop []))
    (load [0xE7, 0x07, 0x00, 0, 0, 0, 0, 0, 0])

/-- The same after a header hook of eight bits, the mode in the second byte of the body, a byte left over. -/
def harqAfter : State :=
  withCfg
    (sbCfg .chase .count true false (sbHooks .chase (.rcid 0 1 true) .nop [(.harqHdr .dl, { prog := .skip (.lit 8) none })]))
    (load [0xE7, 0x07, 0xFF, 0x00, 0, 0, 0, 0, 0])

/-- A HARQ map of four bits of body, an unknown mode. -/
def harqUnknown : State :=
  { withCfg { Params.default with lenUnitBits := 4 } (load [0xE7, 0x01, 0x90]) with limstk := [20] }

theorem harqState_fits : harqState.ExtFits 8 where
  legal := by decide
  type_width := by decide
  subtype_width := by decide
  length_width := by decide
  room := by decide
  inside := by decide

theorem harqAfter_fits : harqAfter.ExtFits 8 where
  legal := by decide
  type_width := by decide
  subtype_width := by decide
  length_width := by decide
  room := by decide
  inside := by decide

theorem harqUnknown_fits : harqUnknown.ExtFits 8 where
  legal := by decide
  type_width := by decide
  subtype_width := by decide
  length_width := by decide
  room := by decide
  inside := by decide

theorem witness_HarqMapHoldsAContainer :
    harqUnknown.cfg.doc = {} ∧ harqUnknown.ExtFits 8 ∧ 0 + 4 ≤ harqUnknown.bodyBits 8 ∧
      harqUnknown.cfg.hooks.lookup (.harqHdr harqUnknown.dir) = none ∧
      harqUnknown.cfg.maps.sbDl.lookup (memRead harqUnknown.mem (harqUnknown.bodyStart 8) 4) = none ∧
      harqState.cfg.doc = {} ∧ harqState.ExtFits 8 ∧ 0 + 4 ≤ harqState.bodyBits 8 ∧
      harqState.cfg.hooks.lookup (.harqHdr harqState.dir) = none ∧
      harqState.cfg.maps.sbDl.lookup (memRead harqState.mem (harqState.bodyStart 8) 4) = some .chase ∧
      harqState.cfg.sbLoop.lookup (harqState.dir, .chase) = some .count ∧ harqState.cfg.nSubBurstBits = some 4 ∧
      harqState.cfg.sbCrc.lookup (harqState.dir, .chase, harqState.inp.includeCor2Changes) = some true ∧
      harqState.cfg.contCrc.lookup (harqState.dir, .chase, harqState.inp.includeCor2Changes) = some true ∧
      harqState.cfg.hooks = sbHooks .chase (.rcid 0 1 true) .nop [] ∧
      0 + 4 + 4 + 32 * (memRead harqState.mem (harqState.bodyStart 8 + 4) 4 + 1) + 16 ≤ harqState.bodyBits 8 := by
  refine ⟨rfl, harqUnknown_fits, ?_, ?_, ?_, rfl, harqState_fits, ?_⟩ <;> decide +kernel

theorem witness_HarqMapHoldsAContainer_row :
    harqAfter.cfg.doc = {} ∧ harqAfter.ExtFits 8 ∧ 8 + 4 ≤ harqAfter.bodyBits 8 ∧
      harqAfter.cfg.hooks.lookup (.harqHdr harqAfter.dir) = some { prog := .skip (.lit 8) none } ∧
      harqAfter.cfg.maps.sbDl.lookup (memRead harqAfter.mem (harqAfter.bodyStart 8 + 8) 4) = some .chase ∧
      (Instr.sbChase, Layout.chase) ∈ layoutRows ∧
      ∃ u,
        exec .sbChase
            { harqAfter with
              pos := harqAfter.bodyStart 8 + 8, limstk := harqAfter.bodyEnd 8 :: harqAfter.limstk
              out := harqAfter.out ++ harqAfter.extHeader 8 } = .next u ∧
          decide (u.state = .done) = true :=
  ⟨rfl, harqAfter_fits, by decide, rfl, by decide +kernel, by decide, exists_next (by decide +kernel)⟩

/-- A Compact configuration: a type code of eight bits. -/
def cCfg (t : List (Nat × CompactKind)) (hs : List (HookId × HookDef)) : Params :=
  { Params.default with compactMap := some { codeBits := 8, table := t }, hooks := hs }

theorem witness_PlainCompactIes :
    let s : State := { withCfg (cCfg [(5, .bandAmc)] []) (load [0x05, 0xAA]) with limstk := [8] }
    s.inp.cqichIdWidth.toNat ≤ 9 ∧ s.cfg.compactMap = some { codeBits := 8, table := [(5, .bandAmc)] } ∧ 8 ≤ s.cfg.doc.readMaxBits ∧
      s.pos + 8 ≤ s.effBound ∧ (∀ b ∈ s.limstk.head?, b ≤ s.total) ∧
      ([(5, CompactKind.bandAmc)].lookup (memRead s.mem s.pos 8)).getD (.other 5) = .bandAmc ∧
      s.cfg.hooks.lookup (.compact .bandAmc) = none := by decide +kernel

theorem witness_CompactSessionWrites :
    let f : HookDef :=
      { prog := .skip .drem none, rets := [some (.lit 3), some (.lit 7), some (.lit 1), some (.lit 2)] }
    let h : HookDef := { prog := .skip .drem none, rets := [some (.lit 1)] }
    let t := [(5, CompactKind.formatConfiguration), (6, .harqModeSwitch)]
    let hs := [(HookId.compact .formatConfiguration, f), (.compact .harqModeSwitch, h)]
    let a : State := withCfg (cCfg t hs) (load [0x05, 0xAA])
    let b : State := { withCfg (cCfg t hs) (load [0x06, 0xAA]) with limstk := [8] }
    a.inp.cqichIdWidth.toNat ≤ 9 ∧ a.cfg.compactMap = some { codeBits := 8, table := t } ∧
      8 ≤ a.cfg.doc.readMaxBits ∧ a.pos + 8 ≤ a.effBound ∧
      (∀ x ∈ a.limstk.head?, x ≤ a.total) ∧ t.lookup (memRead a.mem a.pos 8) = some .formatConfiguration ∧
      a.cfg.hooks.lookup (.compact .formatConfiguration) = some f ∧
      b.pos + 8 ≤ b.effBound ∧ (∀ x ∈ b.limstk.head?, x ≤ b.total) ∧
      t.lookup (memRead b.mem b.pos 8) = some .harqModeSwitch ∧ b.cfg.hooks.lookup (.compact .harqModeSwitch) = some h := by decide +kernel

theorem witness_IllegalInputsAreRefused :
    let s : State := { load [0] with inp := { (load [0]).inp with cqichIdWidth := 10 } }
    isLegacyIe .cidSwitch = true ∧ isCompactIe .compactIe = true ∧ (msgKindOf .msgUlMap).isSome ∧
      9 < s.inp.cqichIdWidth.toNat ∧ (load [0]).inp.cqichIdWidth.toNat ≤ 9 ∧ (load [0]).cfg.compactMap = none ∧
      (load [0]).tooLong = false ∧ { (load [0]).inp with start := 8 }.start ≤ 8 * (load [0]).inp.len := by decide +kernel

theorem witness_IeCommandRunsTheDecodedRow :
    (Instr.ieDlLegacy, Dir.dl) ∈ [(Instr.ieDlLegacy, Dir.dl), (.ieUlLegacy, .ul)] ∧
      decodeWire Params.default (.ie .dl) (headBits { load [0xF4] with limstk := [8] } (.ie .dl)) = .ok .cidSwitch ∧
      decodeWire Params.default (.ie .ul) (headBits { load [0xF4] with limstk := [3] } (.ie .ul)) = .error .shortHead ∧
      (load [0xF4]).inp.cqichIdWidth.toNat ≤ 9 ∧
      (load [0xF4]).cfg.doc.l0TypeBits ≤ (load [0xF4]).cfg.doc.readMaxBits := by decide +kernel

theorem witness_IeCommandOnARegularIe :
    let s : State := { load [0xD1, 0x23, 0x45, 0x67, 0x80] [false, true] with limstk := [36] }
    (Instr.ieUlLegacy, Dir.ul) ∈ [(Instr.ieDlLegacy, Dir.dl), (.ieUlLegacy, .ul)] ∧ s.cfg.doc = {} ∧ s.inp.cqichIdWidth.toNat ≤ 9 ∧
      (Dir.dl = .dl → s.session.incCid = false) ∧ s.altSamples = false :: [true] ∧ memRead s.mem s.pos 4 = 13 ∧
      s.pos + 36 ≤ s.effBound := by decide +kernel

theorem witness_LegacyMessage :
    let s := loadMsg [0x71, 0x23, 0x45, 0x67, 0x8A, 0x12, 0x34, 0x56, 0x78] 0 72 [false, false, true] false
    (Instr.msgUlMap, MsgKind.ulMap, Dir.ul) ∈ [(Instr.msgDlMap, MsgKind.dlMap, Dir.dl), (.msgUlMap, .ulMap, .ul)] ∧
      s.cfg.doc = {} ∧ s.inp.cqichIdWidth.toNat ≤ 9 ∧ s.tooLong = false ∧ s.inp.msgLenBits = 36 * 2 ∧
      s.inp.start + 36 * 2 ≤ 8 * s.inp.len ∧ s.cfg.sessionInit.incCid = false ∧
      s.cfg.hooks.lookup (.msgHdr .ulMap) = none ∧ s.altSamples = List.replicate 2 false ++ [true] ∧
      ∀ j < 2, memRead s.mem (s.inp.start + 36 * j) 4 ≤ 10 ∨ memRead s.mem (s.inp.start + 36 * j) 4 = 13 := by decide +kernel

theorem witness_ReducedAasMessage :
    let s := loadMsg [0x71, 0x23, 0x45, 0x67, 0x80, 0x00, 0xDE] 0 36 [false] false
    s.cfg.doc = {} ∧ s.inp.cqichIdWidth.toNat ≤ 9 ∧ s.tooLong = false ∧ s.inp.msgLenBits = 36 * 1 ∧ s.cfg.raasIeKind = (.dl, .legacy) ∧
      s.cfg.sessionInit.incCid = false ∧ s.cfg.hooks.lookup (.msgHdr .raasPrivateMap) = none ∧
      s.altSamples = List.replicate 1 false ++ [] ∧
      (∀ j < 1, memRead s.mem (s.inp.start + 36 * j) 4 ≤ 10 ∨ memRead s.mem (s.inp.start + 36 * j) 4 = 13) ∧
      8 * ((s.inp.start + 36 * 1 + 7) / 8) + 16 ≤ 8 * s.inp.len := by decide +kernel

theorem witness_CompactMessage :
    let s := withCfg (cCfg [(5, .safety)] []) (loadMsg [0x05, 0xAA, 0, 0, 0, 0] 0 9 [] false)
    (Instr.msgCompactUlMap, MsgKind.compactUlMap) ∈
        [(Instr.msgCompactDlMap, MsgKind.compactDlMap), (.msgCompactUlMap, .compactUlMap)] ∧
      s.cfg.doc = {} ∧ s.inp.cqichIdWidth.toNat ≤ 9 ∧ s.tooLong = false ∧
      s.cfg.compactMap = some { codeBits := 8, table := [(5, .safety)] } ∧ 0 < s.inp.msgLenBits ∧
      8 ≤ s.inp.msgLenBits ∧ s.cfg.hooks.lookup (.msgHdr .compactUlMap) = none ∧
      ([(5, CompactKind.safety)].lookup (memRead s.mem s.inp.start 8)).getD (.other 5) = .safety ∧
      s.cfg.hooks.lookup (.compact .safety) = none ∧
      8 * ((s.inp.start + s.inp.msgLenBits + 7) / 8) + 32 ≤ 8 * s.inp.len := by decide +kernel

/-- An appended uplink map: the hook of the first header, and the second header's if any. -/
def appendedState (g : HookProg) (hs : List (HookId × HookDef)) : State :=
  withCfg
    { Params.default with
      compactMap := some { codeBits := 0, table := [(0, .safety)] }
      hooks := (.msgHdr .compactDlMap, { prog := g, rets := [none, some (.lit 1)] }) :: hs }
    (loadMsg [1, 0, 0, 0, 0, 2, 0, 0, 0, 0] 0 8 [] false)

theorem witness_AppendedUplinkMap :
    (∀ p ∈ [(HookProg.nop, []), (.writeCidType (.lit 2), [(HookId.msgHdr .compactUlMap, { prog := .nop })])],
      let s := appendedState p.1 p.2
      s.cfg.doc = {} ∧ s.inp.cqichIdWidth.toNat ≤ 9 ∧ s.tooLong = false ∧
        s.cfg.compactMap = some { codeBits := 0, table := [(0, .safety)] } ∧ s.inp.start = 0 ∧
        s.inp.msgLenBits = 8 * 1 ∧
        s.cfg.hooks.lookup (.msgHdr .compactDlMap) = some { prog := p.1, rets := [none, some (.lit 1)] } ∧
        (s.cfg.hooks.lookup (.msgHdr .compactUlMap) = none ∨
          s.cfg.hooks.lookup (.msgHdr .compactUlMap) = some { prog := .nop }) ∧
        [(0, CompactKind.safety)].lookup 0 = some .safety ∧ s.cfg.hooks.lookup (.compact .safety) = none ∧
        2 * (8 * 1 + 32) ≤ 8 * s.inp.len) ∧
      2 = cidTypeCode .reduced7 := by decide +kernel

/-- 10_state.md R37, 45_message_decoders.md R266: the appended segment goes on with the session. -/
theorem test_appended_session :
    after
        (exec .msgCompactDlMap
          (appendedState (.writeCidType (.lit 2)) [(.msgHdr .compactUlMap, { prog := .nop })]))
        (fun t => (t.session.cidType, t.consumed)) =
      some (.reduced7, 80) := by decide +kernel

theorem witness_MessagesForgetThePast :
    let s := load [0x71, 0x23, 0x45, 0x67, 0x80]
    let t : State := { s with pos := 36, state := .stopped, err := 1, wUnk := true, limstk := [40] }
    (msgKindOf .msgDlMap).isSome ∧ s.mem = t.mem ∧ s.inp = t.inp ∧ s.cfg = t.cfg ∧ s.altSamples = t.altSamples ∧
      s.draws = t.draws ∧ s.acc16 = t.acc16 ∧ s.acc32 = t.acc32 ∧ s.port = t.port := by decide +kernel

theorem witness_CutBufferGivesAPrefix :
    let s := loadMsg [0x71, 0x23, 0x45, 0x67, 0x80] 0 36 [false] false
    let m := ofBytes 0 [0x71, 0x23, 0x45]
    (msgKindOf .msgDlMap).isSome ∧ s.cfg.hooks = [] ∧ 3 ≤ s.inp.len ∧ (∀ a < 3, readByte m a = readByte s.mem a) ∧
      (after (exec .msgDlMap s) State.err).isSome ∧
      (after (exec .msgDlMap { s with mem := m, inp := { s.inp with len := 3 } }) State.err).isSome := by decide +kernel

theorem witness_BufferAndInputsAreNeverWritten :
    ∃ t, exec .cidSwitch (load [0xF4, 0x00]) = .next t ∧ decide (t.state = .done) = true := exists_next (by decide +kernel)

theorem witness_PastOfADecodeCallIsKept :
    loadsBuffer .unknownL1Code9 = false ∧
      ∃ t, exec .unknownL1Code9 { load [0xF9, 0x00] with wCrc := true, wLen := true, wUnk := true } = .next t ∧
        decide (t.state = .done) = true := ⟨rfl, exists_next (by decide +kernel)⟩

theorem witness_UnitOperationsWriteTheirOwn :
    isUnitOp .padn = true ∧ Instr.padn ∉ [Instr.verify16, .verify32, .trailer16, .trailer32] ∧
      (∀ n, Instr.padn ≠ .pushlim n) ∧ Instr.padn ≠ .poplim ∧ Instr.padn ∉ [Instr.crc16, .verify16, .trailer16] ∧
      Instr.padn ∉ [Instr.crc32, .verify32, .trailer32] ∧
      ∃ t, exec .padn { load [0] with pos := 7 } = .next t ∧ decide (t.pos = 8) = true := ⟨rfl, by decide, fun _ => by simp, by simp, by decide, by decide, exists_next (by decide +kernel)⟩

theorem witness_LegacyIesLeaveTheCompactSession :
    isLegacyIe .stcZone = true ∧
      ∃ t, exec .stcZone (load [0xF1, 0x00]) = .next t ∧ decide (t.state = .done) = true := ⟨rfl, exists_next (by decide +kernel)⟩

theorem witness_CallsEndDoneOrStopped :
    isUnitOp .msgDlMap = false ∧ (∀ p, Instr.msgDlMap ≠ .init p) ∧
      (∃ t, exec .msgDlMap (load []) = .next t ∧ decide (t.state = .done) = true) ∧
      ∃ t, exec .ieDlLegacy (load [0xB0]) = .next t ∧ decide (t.err = 2) = true := ⟨rfl, fun _ => by simp, exists_next (by decide +kernel), exists_next (by decide +kernel)⟩

/-- A state whose cursor is in order: a buffer of the given bytes, the cursor at its start. -/
theorem load_cursorOk (bs : List Nat) : (load bs).CursorOk where
  pos_le_total := Nat.zero_le _
  pos_le_limits := by simp [load, State.reset]
  nested := by simp [load, State.reset]
  depth := by simp [load, State.reset]
  start_le_pos := Nat.zero_le _
  span_start_le := Nat.zero_le _

theorem load_recordsOk (bs : List Nat) : (load bs).RecordsOk where
  within := by simp [load, State.reset]
  value := by simp [load, State.reset]
  wire_order := by simp [load, State.reset]

/-- The same with a command in the port. -/
def commanded (w : CmdWord) : State := { load [0xE7, 0x02, 0x9A, 0xBC] with port := [.command w none] }

theorem commanded_cursorOk (w : CmdWord) : (commanded w).CursorOk where
  pos_le_total := Nat.zero_le _
  pos_le_limits := by simp [commanded, load, State.reset]
  nested := by simp [commanded, load, State.reset]
  depth := by simp [commanded, load, State.reset]
  start_le_pos := Nat.zero_le _
  span_start_le := Nat.zero_le _

theorem commanded_recordsOk (w : CmdWord) : (commanded w).RecordsOk where
  within := by simp [commanded, load, State.reset]
  value := by simp [commanded, load, State.reset]
  wire_order := by simp [commanded, load, State.reset]

theorem witness_DeclaredLengthIsConsumed :
    (load [0xEF, 0x01, 0xAA]).CursorOk ∧ (load [0xF4, 0x00]).CursorOk ∧
      Instr.unknownL2Code15 ∈ .extended2 :: level2Rows ∧ Instr.cidSwitch ∈ level1Rows ∧
      (∃ t, exec .unknownL2Code15 (load [0xEF, 0x01, 0xAA]) = .next t ∧ decide (t.state = .done) = true) ∧
      (∃ t, exec .cidSwitch (load [0xF4, 0x00]) = .next t ∧ decide (t.state = .done) = true) ∧
      ∃ t, exec .extended (load [0xF4, 0x00]) = .next t ∧ decide (t.state = .done) = true := ⟨load_cursorOk _, load_cursorOk _, by decide, by decide, exists_next (by decide +kernel),
    exists_next (by decide +kernel), exists_next (by decide +kernel)⟩

theorem witness_DeclaredLengthIsConsumed_uplink :
    let m : Maps := { Maps.default with l1Ul := some [] }
    let s := { withCfg { Params.default with maps := m, l1LenBitsUl := some 8 } (load [0xF4, 0x00]) with dir := .ul }
    s.CursorOk ∧ ∃ t, exec .extendedUplink s = .next t ∧ decide (t.state = .done) = true := ⟨⟨Nat.zero_le _, by simp [withCfg, load, State.reset], by simp [withCfg, load, State.reset],
    by simp [withCfg, load, State.reset], Nat.zero_le _, Nat.zero_le _⟩, exists_next (by decide +kernel)⟩

theorem witness_LimitsBalance :
    isLegacyIe .skipIe = true ∧ (msgKindOf .msgDlMap).isSome ∧
      (∃ t, exec .skipIe (load [0xE6, 0x00]) = .next t ∧ decide (t.state = .done) = true) ∧
      ∃ t, exec .msgDlMap (load []) = .next t ∧ decide (t.state = .done) = true := ⟨rfl, by decide, exists_next (by decide +kernel), exists_next (by decide +kernel)⟩

theorem witness_StepKeepsCursorAndRecords :
    (commanded 0xD00000000).CursorOk ∧ (commanded 0xD00000000).RecordsOk ∧
      ∃ t, step (commanded 0xD00000000) = .next t ∧ decide (t.out.length = 5) = true := ⟨commanded_cursorOk _, commanded_recordsOk _, exists_next (by decide +kernel)⟩

theorem witness_StepKeepsFlagsAndStatus :
    (commanded 0xD00000000).FlagsOk ∧ (commanded 0xD00000000).StatusOk ∧
      ∃ t, step (commanded 0xD00000000) = .next t ∧ decide (t.wUnk = true) = true := ⟨⟨rfl, rfl, rfl⟩, ⟨.inl rfl, by decide, .inl rfl⟩, exists_next (by decide +kernel)⟩

theorem witness_StepKeepsBufferCanonical :
    (commanded 0xD00000000).MemOk ∧ ∃ t, step (commanded 0xD00000000) = .next t ∧ decide (t.mem ≠ []) = true := ⟨by unfold State.MemOk; decide, exists_next (by decide +kernel)⟩

theorem witness_NoStepFaults :
    (commanded 0xA00000000).CursorOk := commanded_cursorOk _

end Sys2Proof.Tests
end

section
/-! PROOFS. What a step keeps (10_state.md). One rule serves every whole-machine invariant: a relation that each move of the
cursor, each record, limit and warning keeps, and that does not see the other registers, holds over every instruction
(`ExecRule.exec`, `ExecRule.exec_loads`) and, where it says that a predicate is kept, over every step (`step_keeps`). -/

namespace Sys2Proof.Machine

variable {R : State → State → Prop} {P : State → Prop} {i : Instr} {s t : State}

/-! ### The groups of instructions are apart -/

theorem isLegacyIe_iff :
    isLegacyIe i = true ↔
      isUnitOp i = false ∧ isCompactIe i = false ∧ isReserved i = false ∧ loadsBuffer i = false := by
  simp [isLegacyIe, and_assoc]

theorem loadsBuffer_of_msgKindOf {k : MsgKind} (h : msgKindOf i = some k) : loadsBuffer i = true := by
  cases i <;> cases h <;> rfl

theorem not_loadsBuffer_of_unit (h : isUnitOp i = true) : loadsBuffer i = false := by
  cases i <;> cases h <;> rfl

theorem not_loadsBuffer_of_compact (h : isCompactIe i = true) : loadsBuffer i = false := by
  cases i <;> cases h <;> rfl

/-! ### The rule of a chain and of an instruction -/

/-- What makes a relation hold over every chain of atomic moves, where it does not see STATE, the accumulators, the free
values drawn, the samples and the session. -/
structure ChainRule (R : State → State → Prop) : Prop where
  refl : ∀ s, R s s
  trans : ∀ {s t u}, R s t → R t u → R s u
  move : ∀ s w, s.pos + w ≤ s.effBound → R s (s.setPos (s.pos + w))
  field : ∀ s w r, s.pos + w ≤ s.effBound → r.off = s.pos → r.len = w →
    (∀ v, r.val = some v → v = recordVal s.mem r) → R s ((s.setPos (s.pos + w)).emit r)
  emitted : ∀ s id k o n v, s.emitFloor id ≤ o → o + n ≤ s.pos → (∀ x, v = some x → x = memRead s.mem o n) →
    R s (s.emit { id := .hook id k, off := o, len := n, val := v })
  push : ∀ s n, s.limstk.length < s.cfg.doc.limDepth → (∀ b ∈ s.limstk.head?, s.pos + n ≤ b) →
    R s (s.setLimstk ((s.pos + n) :: s.limstk))
  pop : ∀ s b l, s.limstk = b :: l → R s (s.setLimstk l)
  warn : ∀ s w, R s (s.addWarn w)
  msgStart : ∀ s, R s (s.setMsgStart (s.pos / 8))
  unseen : ∀ s q a16 a32 n l x,
    R s { s with state := q, acc16 := a16, acc32 := a32, draws := n, altSamples := l, session := x }

theorem ChainRule.movesAll (h : ChainRule R) : MovesAll R (fun s _ t => R s t) where
  refl := h.refl
  trans := h.trans
  stops := h.trans
  raised s _ := h.refl s
  refused s _ := h.refl s
  faulted s _ := h.refl s
  move := h.move
  field := h.field
  emitted := h.emitted
  push := h.push
  pop := h.pop
  warn := h.warn
  seq s q := h.unseen s q _ _ _ _ _
  acc16 s v := h.unseen s _ v _ _ _ _
  acc32 s v := h.unseen s _ _ v _ _ _
  draws s n := h.unseen s _ _ _ n _ _
  alt s _ l _ := h.unseen s _ _ _ _ l _
  stcZone s _ _ := h.unseen s _ _ _ _ _ _
  incCid s _ := h.unseen s _ _ _ _ _ _
  nLayer s _ := h.unseen s _ _ _ _ _ _
  harqMode s _ := h.unseen s _ _ _ _ _ _
  cidType s _ := h.unseen s _ _ _ _ _ _
  format s _ _ := h.unseen s _ _ _ _ _ _
  msgStart := h.msgStart

theorem ChainAll.of_rule (hc : ChainAll s t) (h : ChainRule R) : R s t := hc R h.movesAll
theorem Chain.of_rule (hc : Chain s t) (h : ChainRule R) : R s t := hc.toAll.of_rule h

/-- And over every instruction, where the relation does not see the registers either that an operation writes when it
starts and ends, nor the port. -/
structure ExecRule (R : State → State → Prop) : Prop extends ChainRule R where
  control : ∀ s q e p c r d f k port,
    R s { s with
      state := q, err := e, errPos := p, consumed := c, result := r, dir := d, family := f, msgKind := k, port := port }

namespace ExecRule

variable (h : ExecRule R)
include h

theorem setResult (s : State) (r : Response) : R s (s.setResult r) := h.control s _ _ _ _ r _ _ _ _
theorem setRoute (s : State) (d : Dir) (f : Family) : R s (s.setRoute d f) := h.control s _ _ _ _ _ d f _ _
theorem startIe (s : State) : R s s.startIe := h.control s _ _ _ _ _ _ _ _ _
theorem finish (s : State) : R s s.finish := h.control s _ _ _ _ _ _ _ _ _
theorem stop (s : State) (e : ErrKind) (p : Nat) : R s (s.stop e p) := h.control s _ _ _ _ _ _ _ _ _
theorem setPort (s : State) (port : List Request) : R s { s with port := port } := h.control s _ _ _ _ _ _ _ _ port

theorem enterMsg (s : State) (k : MsgKind) : R s (s.enterMsg k) :=
  h.trans (h.unseen s s.state _ _ _ _ s.cfg.sessionInit) (h.control _ _ _ _ _ _ _ _ k _)

/-- How an IE starts. -/
theorem started {b : State} (hb : b = s.startIe ∨ ∃ d f, b = s.startIe.setRoute d f) : R s b := by
  rcases hb with rfl | ⟨d, f, rfl⟩
  · exact h.startIe s
  · exact h.trans (h.startIe s) (h.setRoute _ d f)

/-- How an IE or a message ends. -/
theorem ended {u : State} (ht : t = u.finish ∨ ∃ e p, t = u.stop e p) : R u t := by
  rcases ht with rfl | ⟨e, p, rfl⟩
  · exact h.finish u
  · exact h.stop u e p

/-- An instruction that loads no buffer. -/
theorem exec (hl : loadsBuffer i = false) (hx : exec i s = .next t) : R s t := by
  cases exec_shape hx with
  | unit _ u r chain ends => exact ends ▸ h.trans (chain.of_rule h.toChainRule) (h.setResult u r)
  | init p kind => subst kind; cases hl
  | ie _ b u starts chain ends => exact h.trans (h.started starts) (h.trans (chain.of_rule h.toChainRule) (h.ended ends))
  | compact _ b u starts chain ends =>
    exact h.trans (h.started starts) (h.trans (chain.of_rule h.toChainRule) (h.ended ends))
  | msg k kind => simp [loadsBuffer_of_msgKindOf kind] at hl

/-- INIT or a message: what it leaves stands in the relation to the state right after INIT's part. -/
theorem exec_loads (hl : loadsBuffer i = true) (hx : Machine.exec i s = .next t) :
    ∃ p, p ≤ 8 * s.inp.len ∧ R (s.initCall p) t := by
  cases exec_shape hx with
  | unit kind => simp [not_loadsBuffer_of_unit kind] at hl
  | init p _ inside ends => exact ⟨p.toNat, inside, ends ▸ h.setResult _ _⟩
  | ie kind =>
    obtain ⟨-, -, -, hloads⟩ := isLegacyIe_iff.mp kind
    simp [hloads] at hl
  | compact kind => simp [not_loadsBuffer_of_compact kind] at hl
  | msg k _ u inside chain ends =>
    exact ⟨s.inp.start, inside, h.trans (h.enterMsg _ k) (h.trans (chain.of_rule h.toChainRule) (h.ended ends))⟩

end ExecRule

/-! ### The rule of a step -/

/-- What comes into place with a request: nothing, a direction and a family, or the buffer of INIT or MSG. -/
theorem present_cases (i : Instr) (r : Request) (s : State) :
    present i r s = s ∨ (∃ d f, present i r s = s.setRoute d f) ∨
      (loadsBuffer i = true ∧ ∃ a, present i r s = s.accept a) := by
  match r with
  | .command _ none => exact .inl rfl
  | .command _ (some a) =>
    cases hl : loadsBuffer i with
    | false => exact .inl (by simp [present, hl])
    | true => exact .inr (.inr ⟨rfl, a, by simp [present, hl]⟩)
  | .pseudo _ => exact .inl rfl
  | .wire (.ie _) => exact .inr (.inl ⟨_, _, rfl⟩)
  | .wire (.compact _) => exact .inr (.inl ⟨_, _, rfl⟩)
  | .wire (.sb _) => exact .inr (.inl ⟨_, _, rfl⟩)
  | .wire .rcid => exact .inl rfl
  | .wire .trailer16 => exact .inl rfl
  | .wire .trailer32 => exact .inl rfl

theorem ieOp_raise_eq_next {e : ErrKind} (h : ieOp (raise e) s = .next t) : t = s.startIe.stop e s.pos := by
  rw [ieOp_eq (ieOp_next_legal h), callOp_of_raised (raise_run e _)] at h
  simpa using h.symm

theorem unitOp_raise_eq_next {e : ErrKind} (h : unitOp (raise e) s = .next t) :
    t = s.setResult (.error e s.pos) := by
  rw [unitOp_of_raised (raise_run e s)] at h
  simpa using h.symm

/-- A request that is no instruction and answers a next state: a head that is too short, an error of an IE operation or of a
unit operation. -/
theorem rejected_eq_next {e : Reject} {r : Request} (h : rejected e r s = .next t) :
    (∃ a, t = s.setResult a) ∨ ∃ k p, t = s.startIe.stop k p := by
  match e, r with
  | .shortHead, .wire (.ie _) => exact .inr ⟨_, _, ieOp_raise_eq_next h⟩
  | .shortHead, .wire (.compact _) => exact .inr ⟨_, _, ieOp_raise_eq_next h⟩
  | .shortHead, .wire (.sb _) => exact .inr ⟨_, _, ieOp_raise_eq_next h⟩
  | .shortHead, .wire .rcid => exact .inl ⟨_, unitOp_raise_eq_next h⟩
  | .shortHead, .wire .trailer16 => exact .inl ⟨_, unitOp_raise_eq_next h⟩
  | .shortHead, .wire .trailer32 => exact .inl ⟨_, unitOp_raise_eq_next h⟩
  | .shortHead, .command _ _ => cases h
  | .shortHead, .pseudo _ => cases h
  | .badArgument, _ => cases h
  | .notAPseudo, _ => cases h

/-- What a step that answers a next state did; `v` is the state with the oldest request taken from the port. -/
inductive StepShape (s t : State) : Prop
  /-- With an empty port the block waits. -/
  | waits (ends : t = s)
  /-- A request that is an instruction ran as that instruction. -/
  | runs (rest : List Request) (r : Request) (i : Instr) (ends : exec i (present i r { s with port := rest }) = .next t)
  /-- A head too short for a unit operation. -/
  | unitError (rest : List Request) (a : Response) (ends : t = State.setResult { s with port := rest } a)
  /-- A head too short for an IE. -/
  | ieError (rest : List Request) (k : ErrKind) (p : Nat)
    (ends : t = State.stop (State.startIe { s with port := rest }) k p)

/-- The inversion of the step. -/
theorem step_shape (h : step s = .next t) : StepShape s t := by
  unfold step at h
  cases hp : s.port with
  | nil =>
    simp only [hp] at h
    exact .waits (by simpa using h.symm)
  | cons r rest =>
    simp only [hp, runRequest] at h
    split at h
    · exact .runs rest r _ h
    · rcases rejected_eq_next h with ⟨a, ht⟩ | ⟨k, p, ht⟩
      · exact .unitError rest a ht
      · exact .ieError rest k p ht

/-- An invariant of the step: kept by every move, blind to the control registers, and true right after INIT. -/
theorem step_keeps (hR : ExecRule fun s t => P s → P t) (fresh : ∀ (s : State) p, p ≤ 8 * s.inp.len → P (s.initCall p))
    (h : step s = .next t) (hp : P s) : P t := by
  cases step_shape h with
  | waits ends => exact ends ▸ hp
  | unitError rest a ends => exact ends ▸ hR.setResult _ a (hR.setPort s rest hp)
  | ieError rest k p ends => exact ends ▸ hR.stop _ k p (hR.startIe _ (hR.setPort s rest hp))
  | runs rest r i ends =>
    cases hl : loadsBuffer i with
    | true =>
      obtain ⟨p, hin, hk⟩ := hR.exec_loads hl ends
      exact hk (fresh _ p hin)
    | false =>
      refine hR.exec hl ends ?_
      have hv : P { s with port := rest } := hR.setPort s rest hp
      rcases present_cases i r { s with port := rest } with e | ⟨d, f, e⟩ | ⟨hl', _⟩
      · rwa [e]
      · rw [e]; exact hR.setRoute _ d f hv
      · simp [hl] at hl'

end Sys2Proof.Machine
end

section
/-! PROOFS. The cursor and the records (10_state.md R21, R23, R45). -/

namespace Sys2Proof.Machine

variable {s t : State}

/-! ### The cursor -/

/-- The registers that `State.CursorOk` speaks of. -/
def State.cursorRegs (s : State) : Nat × Nat × Nat × List Nat × Nat × Nat :=
  (s.len, s.start, s.pos, s.limstk, s.msgStartByte, s.cfg.doc.limDepth)

namespace State.CursorOk

/-- Nothing else matters to the cursor. -/
theorem of_regs (h : s.CursorOk) (e : t.cursorRegs = s.cursorRegs) : t.CursorOk := by
  simp only [State.cursorRegs, Prod.mk.injEq] at e
  obtain ⟨hlen, hstart, hpos, hlim, hspan, hdepth⟩ := e
  have htotal : t.total = s.total := congrArg (8 * ·) hlen
  constructor <;> simp only [hpos, htotal, hlim, hdepth, hstart, hspan]
  exacts [h.pos_le_total, h.pos_le_limits, h.nested, h.depth, h.start_le_pos, h.span_start_le]

/-- The bound of the cursor's moves lies within every limit. -/
theorem effBound_le (h : s.CursorOk) : ∀ b ∈ s.limstk, s.effBound ≤ b := by
  intro b hb
  have hn := h.nested
  cases hl : s.limstk with
  | nil => simp [hl] at hb
  | cons top l =>
    rw [hl] at hb hn
    have htop : s.effBound ≤ top := effBound_le_top hl
    rcases List.mem_cons.mp hb with rfl | hb
    · exact htop
    · exact htop.trans (List.rel_of_pairwise_cons hn hb)

theorem move {w : Nat} (h : s.CursorOk) (hb : s.pos + w ≤ s.effBound) : (s.setPos (s.pos + w)).CursorOk where
  pos_le_total := hb.trans (effBound_le_total s)
  pos_le_limits b hm := hb.trans (h.effBound_le b hm)
  nested := h.nested
  depth := h.depth
  start_le_pos := h.start_le_pos.trans (Nat.le_add_right _ _)
  span_start_le := h.span_start_le.trans (Nat.div_le_div_right (Nat.le_add_right _ _))

theorem push {n : Nat} (h : s.CursorOk) (hd : s.limstk.length < s.cfg.doc.limDepth)
    (ht : ∀ b ∈ s.limstk.head?, s.pos + n ≤ b) : (s.setLimstk ((s.pos + n) :: s.limstk)).CursorOk where
  pos_le_total := h.pos_le_total
  pos_le_limits := List.forall_mem_cons.mpr ⟨Nat.le_add_right _ _, h.pos_le_limits⟩
  nested := by
    have hn := h.nested
    cases hl : s.limstk with
    | nil => exact List.pairwise_singleton _ _
    | cons top l =>
      rw [hl] at hn
      have htop : s.pos + n ≤ top := ht top (by simp [hl])
      refine List.pairwise_cons.mpr ⟨List.forall_mem_cons.mpr ⟨htop, fun b hb => ?_⟩, hn⟩
      exact htop.trans (List.rel_of_pairwise_cons hn hb)
  depth := hd
  start_le_pos := h.start_le_pos
  span_start_le := h.span_start_le

theorem pop {b : Nat} {l : List Nat} (h : s.CursorOk) (hl : s.limstk = b :: l) : (s.setLimstk l).CursorOk where
  pos_le_total := h.pos_le_total
  pos_le_limits c hc := h.pos_le_limits c (by simp [hl, show c ∈ l from hc])
  nested := (List.pairwise_cons.mp (hl ▸ h.nested)).2
  depth := by
    have hd := h.depth
    rw [hl, List.length_cons] at hd
    exact Nat.le_of_succ_le hd
  start_le_pos := h.start_le_pos
  span_start_le := h.span_start_le

theorem msgStart (h : s.CursorOk) : (s.setMsgStart (s.pos / 8)).CursorOk where
  pos_le_total := h.pos_le_total
  pos_le_limits := h.pos_le_limits
  nested := h.nested
  depth := h.depth
  start_le_pos := h.start_le_pos
  span_start_le := Nat.le_refl _

end State.CursorOk

theorem initCall_cursorOk {p : Nat} (h : p ≤ 8 * s.inp.len) : (s.initCall p).CursorOk where
  pos_le_total := h
  pos_le_limits := List.forall_mem_nil _
  nested := List.Pairwise.nil
  depth := Nat.zero_le _
  start_le_pos := Nat.le_refl _
  span_start_le := Nat.le_refl _

/-! ### The records -/

/-- The registers that `State.RecordsOk` speaks of. -/
def State.recordRegs (s : State) : Memory × Nat × Nat × List OutRec := (s.mem, s.start, s.pos, s.out)

namespace State.RecordsOk

/-- Nothing else matters to the records. -/
theorem of_regs (h : s.RecordsOk) (e : t.recordRegs = s.recordRegs) : t.RecordsOk := by
  simp only [State.recordRegs, Prod.mk.injEq] at e
  obtain ⟨hmem, hstart, hpos, hout⟩ := e
  constructor <;> simp only [hout, hstart, hpos, hmem]
  exacts [h.within, h.value, h.wire_order]

/-- Moving the cursor on leaves every record within the bits passed. -/
theorem move (w : Nat) (h : s.RecordsOk) : (s.setPos (s.pos + w)).RecordsOk where
  within r hr := ⟨(h.within r hr).1, (h.within r hr).2.trans (Nat.le_add_right _ _)⟩
  value := h.value
  wire_order := h.wire_order

/-- A record of bits passed with their value, after all that are there. -/
theorem emit {r : OutRec} (h : s.RecordsOk) (hs : s.start ≤ r.off) (hp : r.off + r.len ≤ s.pos)
    (hv : ∀ v, r.val = some v → v = recordVal s.mem r) (ho : ∀ a ∈ s.out, inWireOrder a r) : (s.emit r).RecordsOk where
  within := List.forall_mem_append.mpr ⟨h.within, List.forall_mem_singleton.mpr ⟨hs, hp⟩⟩
  value := List.forall_mem_append.mpr ⟨h.value, List.forall_mem_singleton.mpr hv⟩
  wire_order :=
    List.pairwise_append.mpr ⟨h.wire_order, List.pairwise_singleton _ _, fun a ha =>
      List.forall_mem_singleton.mpr (ho a ha)⟩

/-- A field passed over by the cursor begins where all records end. -/
theorem field {w : Nat} {r : OutRec} (h : s.RecordsOk) (hs : s.start ≤ s.pos) (ho : r.off = s.pos) (hl : r.len = w)
    (hv : ∀ v, r.val = some v → v = recordVal s.mem r) : ((s.setPos (s.pos + w)).emit r).RecordsOk :=
  (h.move w).emit (ho ▸ hs) (by simp [ho, hl]) hv fun a ha => .inl (ho ▸ (h.within a ha).2)

/-- A hook's record of bits passed before begins at the floor of its hook or later. -/
theorem hookEmit {id : HookId} {k o n : Nat} {v : Option Nat} (h : s.RecordsOk) (hf : s.emitFloor id ≤ o)
    (hp : o + n ≤ s.pos) (hv : ∀ x, v = some x → x = memRead s.mem o n) :
    (s.emit { id := .hook id k, off := o, len := n, val := v }).RecordsOk := by
  obtain ⟨hstart, hrecs⟩ := s.emitFloor_le id
  refine h.emit (hstart.trans hf) hp (by simpa [recordVal] using hv) fun a ha => ?_
  have hfloor := (hrecs a ha).trans hf
  by_cases hown : isHookOf id a.id = true
  · rw [if_pos hown] at hfloor
    exact .inr ⟨id, hown, by simp [isHookOf], hfloor⟩
  · rw [if_neg hown] at hfloor
    exact .inl hfloor

end State.RecordsOk

theorem initCall_recordsOk (s : State) (p : Nat) : (s.initCall p).RecordsOk where
  within := List.forall_mem_nil _
  value := List.forall_mem_nil _
  wire_order := List.Pairwise.nil

/-! ### Both -/

/-- Every move keeps both; a record needs the cursor not to lie before START. -/
theorem cursorOk_recordsOk_execRule : ExecRule fun s t => s.CursorOk ∧ s.RecordsOk → t.CursorOk ∧ t.RecordsOk where
  refl _ := id
  trans h1 h2 := h2 ∘ h1
  move _ w hb := fun ⟨c, r⟩ => ⟨c.move hb, r.move w⟩
  field _ _ _ hb ho hl hv := fun ⟨c, r⟩ => ⟨(c.move hb).of_regs rfl, r.field c.start_le_pos ho hl hv⟩
  emitted _ _ _ _ _ _ hf hp hv := fun ⟨c, r⟩ => ⟨c.of_regs rfl, r.hookEmit hf hp hv⟩
  push _ _ hd ht := fun ⟨c, r⟩ => ⟨c.push hd ht, r.of_regs rfl⟩
  pop _ _ _ hl := fun ⟨c, r⟩ => ⟨c.pop hl, r.of_regs rfl⟩
  warn _ _ := fun ⟨c, r⟩ => ⟨c.of_regs rfl, r.of_regs rfl⟩
  msgStart _ := fun ⟨c, r⟩ => ⟨c.msgStart, r.of_regs rfl⟩
  unseen _ _ _ _ _ _ _ := fun ⟨c, r⟩ => ⟨c.of_regs rfl, r.of_regs rfl⟩
  control _ _ _ _ _ _ _ _ _ _ := fun ⟨c, r⟩ => ⟨c.of_regs rfl, r.of_regs rfl⟩

/-- Settles O56: what every move keeps and INIT restores is an invariant of the step. -/
theorem stepKeepsCursorAndRecords : Obligations.StepKeepsCursorAndRecords := fun _ _ hc hr h =>
  step_keeps cursorOk_recordsOk_execRule (fun s p hp => ⟨initCall_cursorOk hp, initCall_recordsOk s p⟩) h ⟨hc, hr⟩

end Sys2Proof.Machine
end

section
/-! PROOFS. What a decode call only adds to, and what a legacy IE leaves (10_state.md R20, R22, R26, R30, R45 to R47). -/

namespace Sys2Proof.Machine

variable {i : Instr} {s t : State}

/-! ### The past of a decode call -/

/-- The second state is the first with the cursor moved on, records and warnings appended and flags set. -/
structure Advances (s t : State) : Prop where
  pos_le : s.pos ≤ t.pos
  out_prefix : s.out <+: t.out
  warn_prefix : s.warn <+: t.warn
  len_eq : t.len = s.len
  start_eq : t.start = s.start
  crc_sticks : s.wCrc = true → t.wCrc = true
  len_sticks : s.wLen = true → t.wLen = true
  unk_sticks : s.wUnk = true → t.wUnk = true

namespace Advances

theorem refl (s : State) : Advances s s :=
  ⟨Nat.le_refl _, List.prefix_rfl, List.prefix_rfl, rfl, rfl, id, id, id⟩

theorem trans {u : State} (h : Advances s t) (k : Advances t u) : Advances s u where
  pos_le := h.pos_le.trans k.pos_le
  out_prefix := h.out_prefix.trans k.out_prefix
  warn_prefix := h.warn_prefix.trans k.warn_prefix
  len_eq := k.len_eq.trans h.len_eq
  start_eq := k.start_eq.trans h.start_eq
  crc_sticks := k.crc_sticks ∘ h.crc_sticks
  len_sticks := k.len_sticks ∘ h.len_sticks
  unk_sticks := k.unk_sticks ∘ h.unk_sticks

theorem setPos (s : State) (w : Nat) : Advances s (s.setPos (s.pos + w)) :=
  { refl s with pos_le := Nat.le_add_right _ _ }

theorem emit (s : State) (r : OutRec) : Advances s (s.emit r) := { refl s with out_prefix := List.prefix_append _ _ }

theorem addWarn (s : State) (w : WarnRec) : Advances s (s.addWarn w) :=
  { refl s with
    warn_prefix := List.prefix_append _ _
    crc_sticks := Bool.or_inl
    len_sticks := Bool.or_inl
    unk_sticks := Bool.or_inl }

end Advances

theorem advances_execRule : ExecRule Advances where
  refl := Advances.refl
  trans := Advances.trans
  move s w _ := .setPos s w
  field s w r _ _ _ _ := (Advances.setPos s w).trans (.emit _ r)
  emitted s _ _ _ _ _ _ _ _ := .emit s _
  push s _ _ _ := { Advances.refl s with }
  pop s _ _ _ := { Advances.refl s with }
  warn := .addWarn
  msgStart s := { Advances.refl s with }
  unseen s _ _ _ _ _ _ := { Advances.refl s with }
  control s _ _ _ _ _ _ _ _ _ := { Advances.refl s with }

/-- Settles O50: every move only adds. -/
theorem pastOfADecodeCallIsKept : Obligations.PastOfADecodeCallIsKept := by
  intro i s t hl hx
  obtain ⟨hpos, hout, hwarn, hlen, hstart, hcrc, hlc, hunk⟩ := advances_execRule.exec hl hx
  exact ⟨hpos, hout, hwarn, hlen, hstart, hcrc, hlc, hunk⟩

/-! ### The Compact family's part of the session -/

/-- The session fields that only the Compact family writes. -/
def State.compactSession (s : State) : CidType × HarqMode × FmtCfg :=
  (s.session.cidType, s.session.harqMode, s.session.fmtCfg)

/-- No move of the legacy family writes them. -/
theorem compactSession_moves :
    Moves (fun s t => t.compactSession = s.compactSession) fun s _ t => t.compactSession = s.compactSession where
  refl _ := rfl
  trans h k := k.trans h
  stops h k := k.trans h
  raised _ _ := rfl
  refused _ _ := rfl
  faulted _ _ := rfl
  move _ _ _ := rfl
  field _ _ _ _ _ _ _ := rfl
  emitted _ _ _ _ _ _ _ _ _ := rfl
  push _ _ _ _ := rfl
  pop _ _ _ _ := rfl
  warn _ _ := rfl
  seq _ _ := rfl
  acc16 _ _ := rfl
  acc32 _ _ := rfl
  draws _ _ := rfl
  alt _ _ _ _ := rfl
  stcZone _ _ _ := rfl
  incCid _ _ := rfl
  nLayer _ _ := rfl

theorem exec_legacyIe_compactSession (hi : isLegacyIe i = true) (hx : exec i s = .next t) :
    t.compactSession = s.compactSession := by
  obtain ⟨hunit, hcompact, -, hloads⟩ := isLegacyIe_iff.mp hi
  cases exec_shape hx with
  | unit kind => simp [hunit] at kind
  | init p kind => subst kind; cases hloads
  | ie _ b u starts chain ends =>
    have hb : b.compactSession = s.compactSession := by rcases starts with rfl | ⟨d, f, rfl⟩ <;> rfl
    have ht : t.compactSession = u.compactSession := by rcases ends with rfl | ⟨e, p, rfl⟩ <;> rfl
    exact ht.trans ((chain _ compactSession_moves).trans hb)
  | compact kind => simp [hcompact] at kind
  | msg k kind => simp [loadsBuffer_of_msgKindOf kind] at hloads

/-- Settles O52: the moves of which a legacy IE is made, its hooks' among them, leave these three fields. -/
theorem legacyIesLeaveTheCompactSession : Obligations.LegacyIesLeaveTheCompactSession := by
  intro i s t hi hx
  simpa [State.compactSession] using exec_legacyIe_compactSession hi hx

end Sys2Proof.Machine
end

section
/-! PROOFS. Who may write what (10_state.md R44, R49): the commands of the cursor, RCID and checksum groups. -/

namespace Sys2Proof.Machine

variable {R : State → State → Prop} {α β : Type} {i : Instr} {s t : State}

/-! ### Sub-steps of the unit operations -/

/-- What makes a relation hold over the sub-steps of the cursor and RCID groups that push or pop no limit. -/
structure CursorRule (R : State → State → Prop) : Prop where
  refl : ∀ s, R s s
  trans : ∀ {s t u}, R s t → R t u → R s u
  setPos : ∀ s p, R s (s.setPos p)

namespace CursorRule

variable (h : CursorRule R)
include h

theorem pure' (a : α) : WithinStates R (pure a : D α) := fun s => h.refl s

theorem bind' {x : D α} {f : α → D β} (hx : WithinStates R x) (hf : ∀ a, WithinStates R (f a)) :
    WithinStates R (x >>= f) := by
  intro s
  have h1 := hx s
  rw [bind_run]
  cases e : x s with
  | error e' t => rwa [e] at h1
  | ok a t =>
    rw [e] at h1
    have h2 := hf a t
    change Post R _ s (f a t)
    cases e2 : f a t <;> rw [e2] at h2 <;> exact h.trans h1 h2

theorem getS' : WithinStates R getS := fun s => h.refl s
theorem getPos' : WithinStates R getPos := fun s => h.refl s

theorem moveBits' (w : Nat) : WithinStates R (moveBits w) := by
  intro s
  rcases moveBits_cases w s with ⟨_, e⟩ | ⟨_, e⟩ <;> rw [e]
  · exact h.setPos s _
  · exact h.refl s

theorem readBits' (w : Nat) : WithinStates R (readBits w) := by
  intro s
  rcases readBits_ok_or_stop w s with ⟨_, e⟩ | ⟨_, _, e⟩ <;> rw [e]
  · exact h.setPos s _
  · exact h.refl s

theorem readTwo' (a b : Nat) : WithinStates R (readTwo a b) :=
  h.bind' (h.readBits' a) fun _ => h.bind' (h.readBits' b) fun _ => h.pure' _

theorem rcidOp' : WithinStates R rcidOp := by
  intro s
  rcases rcidOp_cases s with ⟨_, e⟩ | ⟨_, _, e⟩ | ⟨_, _, _, e⟩ <;> rw [e]
  · exact h.setPos s _
  · exact h.refl s
  · exact h.setPos s _

theorem rcidPrefixed' (n : Nat) : WithinStates R (rcidPrefixed n) :=
  h.bind' (h.readBits' 1) fun _ => h.bind' (h.readBits' n) fun _ => h.pure' _

theorem pushLimit' (hl : ∀ s l, R s (s.setLimstk l)) (n : Nat) : WithinStates R (pushLimit n) := by
  intro s
  rcases pushLimit_cases n s with ⟨e, _, _⟩ | e | e <;> rw [e]
  · exact hl s _
  · exact h.refl s
  · exact h.refl s

theorem popLimit' (hl : ∀ s l, R s (s.setLimstk l)) : WithinStates R popLimit := by
  intro s
  rcases popLimit_cases s with ⟨_, _, _, e⟩ | ⟨_, e⟩ <;> rw [e]
  · exact hl s _
  · exact h.refl s

theorem calc16' (ha : ∀ s v, R s (s.setAcc16 v)) : WithinStates R calc16 := by
  intro s
  rcases calc16_cases s with e | ⟨_, e⟩ <;> rw [e]
  · exact ha s _
  · exact h.refl s

theorem calc32' (ha : ∀ s v, R s (s.setAcc32 v)) : WithinStates R calc32 := by
  intro s
  rcases calc32_cases s with e | ⟨_, e⟩ <;> rw [e]
  · exact ha s _
  · exact h.refl s

theorem readField' (he : ∀ s r, R s (s.emit r)) (id : FieldId) (w : Nat) : WithinStates R (readField id w) :=
  h.bind' h.getPos' fun _ => h.bind' (h.readBits' w) fun _ => h.bind' (fun s => he s _) fun _ => h.pure' _

theorem warnMismatch' (hw : ∀ s o n, R s (s.addWarn ⟨.checksumMismatch, o, n⟩)) (b : Bool) (o n : Nat) :
    WithinStates R (whenD b (warnRec .checksumMismatch o n)) := by
  cases b
  · exact h.pure' ()
  · exact fun s => hw s o n

theorem verify16Op' (ha : ∀ s v, R s (s.setAcc16 v)) (he : ∀ s r, R s (s.emit r))
    (hw : ∀ s o n, R s (s.addWarn ⟨.checksumMismatch, o, n⟩)) : WithinStates R verify16Op :=
  h.bind' (h.calc16' ha) fun _ => h.bind' h.getPos' fun _ => h.bind' (h.readField' he _ 16) fun _ =>
    h.bind' (h.warnMismatch' hw _ _ _) fun _ => h.pure' _

theorem verify32Op' (ha : ∀ s v, R s (s.setAcc32 v)) (he : ∀ s r, R s (s.emit r))
    (hw : ∀ s o n, R s (s.addWarn ⟨.checksumMismatch, o, n⟩)) : WithinStates R verify32Op :=
  h.bind' (h.calc32' ha) fun _ => h.bind' h.getPos' fun _ => h.bind' (h.readField' he _ 32) fun _ =>
    h.bind' (h.warnMismatch' hw _ _ _) fun _ => h.pure' _

/-- A unit operation that answers within the relation. -/
theorem unitOp_next (hr : ∀ s r, R s (s.setResult r)) {x : D Response} (hx : WithinStates R x)
    (hn : unitOp x s = .next t) : R s t := by
  have hs := hx s
  rcases unitOp_eq_next hn with ⟨r, u, e, rfl⟩ | ⟨k, p, u, e, rfl⟩ <;> rw [e] at hs <;> exact h.trans hs (hr u _)

end CursorRule

/-! ### What is an operation's own -/

/-- What no unit operation writes. -/
def State.unitFrame (s : State) :=
  (s.session, s.dir, s.family, s.msgKind, s.altSamples, s.draws, s.state, s.err, s.errPos, s.consumed, s.msgStartByte,
   s.wLen, s.wUnk)

/-- The unit operation `i` leaves all that is not its own. -/
structure WritesOwn (i : Instr) (s t : State) : Prop where
  frame : t.unitFrame = s.unitFrame
  outputs : i ∉ [.verify16, .verify32, .trailer16, .trailer32] → t.out = s.out ∧ t.warn = s.warn ∧ t.wCrc = s.wCrc
  limits : (∀ n, i ≠ .pushlim n) → i ≠ .poplim → t.limstk = s.limstk
  sums16 : i ∉ [.crc16, .verify16, .trailer16] → t.acc16 = s.acc16
  sums32 : i ∉ [.crc32, .verify32, .trailer32] → t.acc32 = s.acc32

namespace WritesOwn

theorem refl (i : Instr) (s : State) : WritesOwn i s s :=
  ⟨rfl, fun _ => ⟨rfl, rfl, rfl⟩, fun _ _ => rfl, fun _ => rfl, fun _ => rfl⟩

theorem trans {u : State} (h : WritesOwn i s t) (k : WritesOwn i t u) : WritesOwn i s u where
  frame := k.frame.trans h.frame
  outputs hi := by
    obtain ⟨ho, hw, hc⟩ := h.outputs hi
    obtain ⟨ho', hw', hc'⟩ := k.outputs hi
    exact ⟨ho'.trans ho, hw'.trans hw, hc'.trans hc⟩
  limits hn hp := (k.limits hn hp).trans (h.limits hn hp)
  sums16 hi := (k.sums16 hi).trans (h.sums16 hi)
  sums32 hi := (k.sums32 hi).trans (h.sums32 hi)

theorem cursorRule (i : Instr) : CursorRule (WritesOwn i) where
  refl := refl i
  trans := trans
  setPos s _ := { refl i s with }

theorem setResult (s : State) (r : Response) : WritesOwn i s (s.setResult r) := { refl i s with }

theorem setLimstk (hi : i = .poplim ∨ ∃ n, i = .pushlim n) (s : State) (l : List Nat) :
    WritesOwn i s (s.setLimstk l) :=
  { refl i s with
    limits := by
      rcases hi with rfl | ⟨n, rfl⟩
      · exact fun _ hp => absurd rfl hp
      · exact fun hn _ => absurd rfl (hn n) }

theorem setAcc16 (hi : i ∈ [.crc16, .verify16, .trailer16]) (s : State) (v : BitVec 16) :
    WritesOwn i s (s.setAcc16 v) := { refl i s with sums16 := (absurd hi ·) }

theorem setAcc32 (hi : i ∈ [.crc32, .verify32, .trailer32]) (s : State) (v : BitVec 32) :
    WritesOwn i s (s.setAcc32 v) := { refl i s with sums32 := (absurd hi ·) }

theorem emit (hi : i ∈ [.verify16, .verify32, .trailer16, .trailer32]) (s : State) (r : OutRec) :
    WritesOwn i s (s.emit r) := { refl i s with outputs := (absurd hi ·) }

/-- The warning of a mismatch sets no flag but W_CRC. -/
theorem warnMismatch (hi : i ∈ [.verify16, .verify32, .trailer16, .trailer32]) (s : State) (o n : Nat) :
    WritesOwn i s (s.addWarn ⟨.checksumMismatch, o, n⟩) :=
  { refl i s with frame := by simp [State.unitFrame], outputs := (absurd hi ·) }

end WritesOwn

/-- VERIFY16 and its wire form write their own. -/
theorem writesOwn_verify16Op (h16 : i ∈ [.crc16, .verify16, .trailer16])
    (hv : i ∈ [.verify16, .verify32, .trailer16, .trailer32]) : WithinStates (WritesOwn i) verify16Op :=
  (WritesOwn.cursorRule i).verify16Op' (.setAcc16 h16) (.emit hv) (.warnMismatch hv)

/-- VERIFY32 and its wire form write their own. -/
theorem writesOwn_verify32Op (h32 : i ∈ [.crc32, .verify32, .trailer32])
    (hv : i ∈ [.verify16, .verify32, .trailer16, .trailer32]) : WithinStates (WritesOwn i) verify32Op :=
  (WritesOwn.cursorRule i).verify32Op' (.setAcc32 h32) (.emit hv) (.warnMismatch hv)

/-- Every operation of these groups that answers wrote its own. -/
theorem exec_unit_writesOwn (hi : isUnitOp i = true) (hx : exec i s = .next t) : WritesOwn i s t := by
  have c := WritesOwn.cursorRule i
  cases i
  case read => exact c.unitOp_next .setResult (c.bind' (c.readBits' _) fun _ => c.pure' _) hx
  case skip => exact c.unitOp_next .setResult (c.bind' (c.moveBits' _) fun _ => c.pure' _) hx
  case padn => exact c.unitOp_next .setResult (c.bind' (fun s => c.moveBits' _ s) fun _ => c.pure' _) hx
  case padb => exact c.unitOp_next .setResult (c.bind' (fun s => c.moveBits' _ s) fun _ => c.pure' _) hx
  case rem => exact c.unitOp_next .setResult (c.bind' c.getS' fun _ => c.pure' _) hx
  case pushlim n =>
    exact c.unitOp_next .setResult (c.bind' (c.pushLimit' (.setLimstk (.inr ⟨n, rfl⟩)) _) fun _ => c.pure' _) hx
  case poplim =>
    exact c.unitOp_next .setResult (c.bind' (c.popLimit' (.setLimstk (.inl rfl))) fun _ => c.pure' _) hx
  case rcid => exact c.unitOp_next .setResult (c.bind' c.rcidOp' fun _ => c.pure' _) hx
  case crc16 => exact c.unitOp_next .setResult (c.bind' (c.calc16' (.setAcc16 (by simp))) fun _ => c.pure' _) hx
  case crc32 => exact c.unitOp_next .setResult (c.bind' (c.calc32' (.setAcc32 (by simp))) fun _ => c.pure' _) hx
  case verify16 =>
    exact c.unitOp_next .setResult (c.bind' (writesOwn_verify16Op (by simp) (by simp)) fun _ => c.pure' _) hx
  case verify32 =>
    exact c.unitOp_next .setResult (c.bind' (writesOwn_verify32Op (by simp) (by simp)) fun _ => c.pure' _) hx
  case trailer16 =>
    exact c.unitOp_next .setResult (c.bind' (writesOwn_verify16Op (by simp) (by simp)) fun _ => c.pure' _) hx
  case trailer32 =>
    exact c.unitOp_next .setResult (c.bind' (writesOwn_verify32Op (by simp) (by simp)) fun _ => c.pure' _) hx
  case rcidN16 =>
    exact c.unitOp_next .setResult (c.bind' (c.bind' (c.readBits' _) fun _ => c.pure' _) fun _ => c.pure' _) hx
  case rcidP1 => exact c.unitOp_next .setResult (c.bind' (c.rcidPrefixed' _) fun _ => c.pure' _) hx
  case rcidP0_11 => exact c.unitOp_next .setResult (c.bind' (c.rcidPrefixed' _) fun _ => c.pure' _) hx
  case rcidP0_7 => exact c.unitOp_next .setResult (c.bind' (c.rcidPrefixed' _) fun _ => c.pure' _) hx
  case rcidP0_3 => exact c.unitOp_next .setResult (c.bind' (c.rcidPrefixed' _) fun _ => c.pure' _) hx
  case rd48 => exact c.unitOp_next .setResult (c.bind' (c.readTwo' _ _) fun _ => c.pure' _) hx
  case rd64 => exact c.unitOp_next .setResult (c.bind' (c.readTwo' _ _) fun _ => c.pure' _) hx
  case readn => exact c.unitOp_next .setResult (c.bind' (c.readBits' _) fun _ => c.pure' _) hx
  case skipn => exact c.unitOp_next .setResult (c.bind' (c.moveBits' _) fun _ => c.pure' _) hx
  case remn => exact c.unitOp_next .setResult (c.bind' c.getS' fun _ => c.pure' _) hx
  all_goals cases hi

/-- Settles O51. -/
theorem unitOperationsWriteTheirOwn : Obligations.UnitOperationsWriteTheirOwn := by
  intro i s t hi hx
  obtain ⟨frame, outputs, limits, sums16, sums32⟩ := exec_unit_writesOwn hi hx
  exact ⟨by simpa [State.unitFrame] using frame, outputs, limits, sums16, sums32⟩

end Sys2Proof.Machine
end

section
/-! PROOFS. The sticky flags and the status (10_state.md R43, R44, R47, 60_exceptions.md R281, R288), and reset (R38, R50). -/

namespace Sys2Proof.Machine

variable {i : Instr} {s t : State}

/-! ### The sticky flags -/

/-- The registers that `State.FlagsOk` speaks of. -/
def State.flagRegs (s : State) : List WarnRec × Bool × Bool × Bool := (s.warn, s.wCrc, s.wLen, s.wUnk)

namespace State.FlagsOk

theorem of_regs (h : s.FlagsOk) (e : t.flagRegs = s.flagRegs) : t.FlagsOk := by
  simp only [State.flagRegs, Prod.mk.injEq] at e
  obtain ⟨hwarn, hcrc, hlen, hunk⟩ := e
  constructor <;> simp only [hwarn, hcrc, hlen, hunk]
  exacts [h.crc, h.len, h.unk]

/-- A warning sets the flag of its kind. -/
theorem addWarn (h : s.FlagsOk) (w : WarnRec) : (s.addWarn w).FlagsOk where
  crc := by simp [h.crc]
  len := by simp [h.len]
  unk := by simp [h.unk]

end State.FlagsOk

theorem initCall_flagsOk (s : State) (p : Nat) : (s.initCall p).FlagsOk := ⟨rfl, rfl, rfl⟩

theorem flagsOk_execRule : ExecRule fun s t => s.FlagsOk → t.FlagsOk where
  refl _ := id
  trans h k := k ∘ h
  move _ _ _ h := h.of_regs rfl
  field _ _ _ _ _ _ _ h := h.of_regs rfl
  emitted _ _ _ _ _ _ _ _ _ h := h.of_regs rfl
  push _ _ _ _ h := h.of_regs rfl
  pop _ _ _ _ h := h.of_regs rfl
  warn _ w h := h.addWarn w
  msgStart _ h := h.of_regs rfl
  unseen _ _ _ _ _ _ _ h := h.of_regs rfl
  control _ _ _ _ _ _ _ _ _ _ h := h.of_regs rfl

/-! ### The status -/

/-- No move writes ERR. -/
theorem err_chainRule : ChainRule fun s t => t.err = s.err where
  refl _ := rfl
  trans h k := k.trans h
  move _ _ _ := rfl
  field _ _ _ _ _ _ _ := rfl
  emitted _ _ _ _ _ _ _ _ _ := rfl
  push _ _ _ _ := rfl
  pop _ _ _ _ := rfl
  warn _ _ := rfl
  msgStart _ := rfl
  unseen _ _ _ _ _ _ _ := rfl

namespace State.StatusOk

theorem of_eq (h : s.StatusOk) (hs : t.state = s.state) (he : t.err = s.err) : t.StatusOk := by
  constructor <;> simp only [hs, he]
  exacts [h.rests, h.err_iff, h.err_code]

/-- A stop leaves the code of its error. -/
theorem stop (s : State) (e : ErrKind) (p : Nat) : (s.stop e p).StatusOk where
  rests := .inr (.inr rfl)
  err_iff := by cases e <;> simp [errCode]
  err_code := by cases e <;> simp [errCode]

/-- Where ERR is 0 the block rests in order, not stopped. -/
theorem of_err_zero (he : s.err = 0) (hs : s.state = .idle ∨ s.state = .done) : s.StatusOk where
  rests := hs.imp_right .inl
  err_iff := by rcases hs with hs | hs <;> simp [hs, he]
  err_code := .inl he

end State.StatusOk

/-- An IE or message that began with ERR 0 leaves the status in order. -/
theorem callEnds_statusOk {b u : State} (hb : b.err = 0) (chain : ChainAll b u)
    (ends : t = u.finish ∨ ∃ e p, t = u.stop e p) : t.StatusOk := by
  rcases ends with rfl | ⟨e, p, rfl⟩
  · exact .of_err_zero ((chain.of_rule err_chainRule).trans hb) (.inr rfl)
  · exact .stop u e p

theorem started_err {b : State} (hb : b = s.startIe ∨ ∃ d f, b = s.startIe.setRoute d f) : b.err = 0 := by
  rcases hb with rfl | ⟨d, f, rfl⟩ <;> rfl

/-- An instruction that is no unit operation leaves the status in order whatever it was. -/
theorem exec_statusOk (hi : isUnitOp i = false) (hx : exec i s = .next t) : t.StatusOk := by
  cases exec_shape hx with
  | unit kind => simp [hi] at kind
  | init p _ _ ends => exact ends ▸ .of_err_zero rfl (.inl rfl)
  | ie _ b u starts chain ends => exact callEnds_statusOk (started_err starts) chain.toAll ends
  | compact _ b u starts chain ends => exact callEnds_statusOk (started_err starts) chain ends
  | msg k _ u _ chain ends => exact callEnds_statusOk rfl chain ends

/-- A unit operation leaves STATE and ERR. -/
theorem exec_unit_status (hi : isUnitOp i = true) (hx : exec i s = .next t) : t.state = s.state ∧ t.err = s.err := by
  have h := (exec_unit_writesOwn hi hx).frame
  simp only [State.unitFrame, Prod.mk.injEq] at h
  obtain ⟨-, -, -, -, -, -, hstate, herr, -⟩ := h
  exact ⟨hstate, herr⟩

theorem step_statusOk (h : step s = .next t) (hs : s.StatusOk) : t.StatusOk := by
  cases step_shape h with
  | waits ends => exact ends ▸ hs
  | unitError rest a ends => exact ends ▸ hs.of_eq rfl rfl
  | ieError rest k p ends => exact ends ▸ .stop _ k p
  | runs rest r i ends =>
    cases hi : isUnitOp i with
    | false => exact exec_statusOk hi ends
    | true =>
      obtain ⟨hstate, herr⟩ := exec_unit_status hi ends
      refine State.StatusOk.of_eq ?_ hstate herr
      rcases present_cases i r { s with port := rest } with e | ⟨d, f, e⟩ | ⟨_, a, e⟩ <;> rw [e] <;>
        exact hs.of_eq rfl rfl

/-- Settles O57: the flags by the rule of a step, the status by the shapes of a step. -/
theorem stepKeepsFlagsAndStatus : Obligations.StepKeepsFlagsAndStatus := fun _ _ h =>
  ⟨step_keeps flagsOk_execRule (fun s p _ => initCall_flagsOk s p) h, step_statusOk h⟩

/-! ### Reset -/

theorem reset_inv : State.reset.Inv where
  cursor := (initCall_cursorOk (s := State.reset) (p := 0) (Nat.le_refl _)).of_regs rfl
  mem := rfl
  records := (initCall_recordsOk State.reset 0).of_regs rfl
  flags := ⟨rfl, rfl, rfl⟩
  status := .of_err_zero rfl (.inl rfl)

/-- Settles O59: reset is in order as after an INIT of the empty buffer; its registers are read off. -/
theorem resetIsInOrder : Obligations.ResetIsInOrder :=
  ⟨reset_inv, rfl, rfl, rfl, rfl, rfl, rfl, rfl, rfl, rfl, rfl, rfl, rfl, rfl, rfl, rfl, rfl, rfl, rfl, rfl, rfl, rfl, rfl,
    rfl⟩

end Sys2Proof.Machine
end

section
/-! PROOFS. The Byte Buffer (20_memory.md): a byte-aligned field is big-endian (R62, R63), no instruction writes what the
host supplies (R60, R69, R71), and a step keeps the buffer canonical (log 14). -/

namespace Sys2Proof.Machine

variable {i : Instr} {s t : State}

/-! ### Byte-aligned fields -/

/-- The bits of byte `k` by their place in it, the most significant first. -/
theorem bufBit_in_byte (m : Memory) (k : Nat) {j : Nat} (hj : j < 8) :
    bufBit m (8 * k + j) = (readByte m k).toNat / 2 ^ (7 - j) % 2 := by
  rw [bufBit, show (8 * k + j) / 8 = k by omega, show (8 * k + j) % 8 = j by omega, Nat.shiftRight_eq_div_pow]

/-- The first `j` bits of a byte are its upper part. -/
theorem memRead_in_byte (m : Memory) (k : Nat) {j : Nat} (hj : j ≤ 8) :
    memRead m (8 * k) j = (readByte m k).toNat / 2 ^ (8 - j) := by
  induction j with
  | zero => exact (Nat.div_eq_of_lt (readByte m k).isLt).symm
  | succ j ih =>
    rw [memRead, ih (by omega), bufBit_in_byte m k hj, show 8 - j = 7 - j + 1 by omega, Nat.pow_succ,
      ← Nat.div_div_eq_div_mul, show 8 - (j + 1) = 7 - j by omega, Nat.div_add_mod]

theorem memRead_byte (m : Memory) (k : Nat) : memRead m (8 * k) 8 = (readByte m k).toNat := by
  simpa using memRead_in_byte m k (Nat.le_refl 8)

theorem memRead_two_bytes (m : Memory) (k : Nat) :
    memRead m (8 * k) 16 = (readByte m k).toNat * 256 + (readByte m (k + 1)).toNat := by
  rw [memRead_add m (8 * k) 8 8, show 8 * k + 8 = 8 * (k + 1) by ring, memRead_byte, memRead_byte,
    show 2 ^ 8 = 256 from rfl]

/-- Settles O14: a field of 32 bits is two of 16, each of two bytes. -/
theorem alignedFieldsAreBigEndian : Obligations.AlignedFieldsAreBigEndian := by
  refine fun m k => ⟨memRead_two_bytes m k, ?_⟩
  rw [memRead_add m (8 * k) 16 16, show 8 * k + 16 = 8 * (k + 2) by ring, memRead_two_bytes, memRead_two_bytes]
  ring

/-! ### What the host supplies -/

/-- The registers that only the host writes. -/
def State.hostRegs (s : State) : Memory × Inputs × Params × List Request := (s.mem, s.inp, s.cfg, s.port)

/-- No move writes them. -/
theorem hostRegs_chainRule : ChainRule fun s t => t.hostRegs = s.hostRegs where
  refl _ := rfl
  trans h k := k.trans h
  move _ _ _ := rfl
  field _ _ _ _ _ _ _ := rfl
  emitted _ _ _ _ _ _ _ _ _ := rfl
  push _ _ _ _ := rfl
  pop _ _ _ _ := rfl
  warn _ _ := rfl
  msgStart _ := rfl
  unseen _ _ _ _ _ _ _ := rfl

/-- Nor does the end of an IE or a message. -/
theorem callEnds_hostRegs {b u : State} (chain : ChainAll b u) (ends : t = u.finish ∨ ∃ e p, t = u.stop e p) :
    t.hostRegs = b.hostRegs := by
  rcases ends with rfl | ⟨e, p, rfl⟩ <;> exact chain.of_rule hostRegs_chainRule

theorem started_hostRegs {b : State} (hb : b = s.startIe ∨ ∃ d f, b = s.startIe.setRoute d f) :
    b.hostRegs = s.hostRegs := by
  rcases hb with rfl | ⟨d, f, rfl⟩ <;> rfl

theorem exec_hostRegs (hx : exec i s = .next t) : t.hostRegs = s.hostRegs := by
  cases exec_shape hx with
  | unit _ u r chain ends => exact ends ▸ chain.of_rule hostRegs_chainRule
  | init p _ _ ends => exact ends ▸ rfl
  | ie _ b u starts chain ends => exact (callEnds_hostRegs chain.toAll ends).trans (started_hostRegs starts)
  | compact _ b u starts chain ends => exact (callEnds_hostRegs chain ends).trans (started_hostRegs starts)
  | msg k _ u _ chain ends => exact (callEnds_hostRegs chain ends).trans rfl

/-- Settles O49: neither the moves nor the start and the end of an operation write them. -/
theorem bufferAndInputsAreNeverWritten : Obligations.BufferAndInputsAreNeverWritten := by
  intro i s t hx
  simpa [State.hostRegs] using exec_hostRegs hx

/-! ### The canonical form -/

/-- Only the memory matters to it. -/
theorem State.MemOk.of_mem (h : s.MemOk) (e : t.mem = s.mem) : t.MemOk := by
  rwa [State.MemOk, e]

/-- What comes into place with a request is canonical where the buffer was: a new one is built so. -/
theorem present_memOk (r : Request) (h : s.MemOk) : (present i r s).MemOk := by
  rcases present_cases i r s with e | ⟨d, f, e⟩ | ⟨_, a, e⟩ <;> rw [e]
  · exact h
  · exact h.of_mem rfl
  · exact ofBytes_wf 0 a.bytes

/-- Settles O58: only what comes into place with a request writes the buffer. -/
theorem stepKeepsBufferCanonical : Obligations.StepKeepsBufferCanonical := by
  intro s t hm h
  cases step_shape h with
  | waits ends => exact ends ▸ hm
  | unitError rest a ends => exact ends ▸ hm.of_mem rfl
  | ieError rest k p ends => exact ends ▸ hm.of_mem rfl
  | runs rest r i ends =>
    obtain ⟨hmem, -⟩ := bufferAndInputsAreNeverWritten i _ t ends
    have hport : State.MemOk { s with port := rest } := hm.of_mem rfl
    exact (present_memOk r hport).of_mem hmem

end Sys2Proof.Machine
end

section
/-! PROOFS. No fault (20_memory.md R61): while the cursor is in order it lies in the buffer, so no checksum span leaves the
buffer; and every sub-step that goes on leaves the cursor in order. -/

namespace Sys2Proof.Machine

variable {α β : Type} {i : Instr} {s t : State} {f : Fault}

/-! ### Sub-steps -/

/-- From a cursor in order a sub-step goes on with the cursor in order, or stops for another reason than the fault. -/
def NoFault (x : D α) : Prop :=
  Within (fun s t => s.CursorOk → t.CursorOk) (fun s e _ => s.CursorOk → ∀ f, e ≠ .faulted f) x

theorem cursorOk_chainRule : ChainRule fun s t => s.CursorOk → t.CursorOk where
  refl _ := id
  trans h k := k ∘ h
  move _ _ hb c := c.move hb
  field _ _ _ hb _ _ _ c := (c.move hb).of_regs rfl
  emitted _ _ _ _ _ _ _ _ _ c := c.of_regs rfl
  push _ _ hd ht c := c.push hd ht
  pop _ _ _ hl c := c.pop hl
  warn _ _ c := c.of_regs rfl
  msgStart _ c := c.msgStart
  unseen _ _ _ _ _ _ _ c := c.of_regs rfl

/-- The span of a checksum ends in the buffer. -/
theorem State.CursorOk.byte_le_len (h : s.CursorOk) : s.pos / 8 ≤ s.len := by
  have := h.pos_le_total
  rw [State.total] at this
  omega

/-- Where the cursor is in order no atomic stop is the fault. -/
theorem noFault_moves :
    MovesAll (fun s t => s.CursorOk → t.CursorOk) fun s e _ => s.CursorOk → ∀ f, e ≠ .faulted f :=
  { cursorOk_chainRule.movesAll with
    stops := fun h k c => k (h c)
    raised := fun _ _ _ _ => nofun
    refused := fun _ _ _ _ => nofun
    faulted := fun _ hf c => absurd c.byte_le_len (by omega) }

namespace NoFault

theorem bind {x : D α} {g : α → D β} (hx : NoFault x) (hg : ∀ a, NoFault (g a)) : NoFault (x >>= g) :=
  noFault_moves.bind' hx hg

/-- An update of registers that the cursor's order does not see. -/
theorem of_modS {g : State → State} (hg : ∀ s, (g s).cursorRegs = s.cursorRegs) : NoFault (modS g) :=
  fun s c => c.of_regs (hg s)

theorem of_initCursor (p : Nat) : NoFault (initCursor p) := by
  intro s
  rcases initCursor_cases p s with ⟨hp, e⟩ | e <;> rw [e]
  · exact fun _ => initCall_cursorOk hp
  · exact fun _ _ => nofun

theorem ne_faulted {x : D α} (hx : NoFault x) (hs : s.CursorOk) : x s ≠ .error (.faulted f) t := by
  intro e
  have h := hx s
  rw [e] at h
  exact h hs f rfl

end NoFault

/-! ### Operations -/

/-- A unit operation faults only where its sub-step does. -/
theorem unitOp_eq_fault {x : D Response} (h : unitOp x s = .fault f) : ∃ t, x s = .error (.faulted f) t := by
  unfold unitOp at h
  split at h
  · cases h
  · cases h
  · cases h
  · cases h
    exact ⟨_, ‹_›⟩

/-- An IE or MSG operation faults only where its sub-step does. -/
theorem callOp_eq_fault {x : D Unit} (h : callOp x s = .fault f) : ∃ t, x s = .error (.faulted f) t := by
  unfold callOp at h
  split at h
  · cases h
  · cases h
  · cases h
  · cases h
    exact ⟨_, ‹_›⟩

theorem unitOp_ne_fault {x : D Response} (hs : s.CursorOk) (hx : NoFault x) : unitOp x s ≠ .fault f := by
  intro h
  obtain ⟨t, e⟩ := unitOp_eq_fault h
  exact hx.ne_faulted hs e

theorem callOp_ne_fault {x : D Unit} (hs : s.CursorOk) (hx : NoFault x) : callOp x s ≠ .fault f := by
  intro h
  obtain ⟨t, e⟩ := callOp_eq_fault h
  exact hx.ne_faulted hs e

theorem ieOp_ne_fault {x : D Unit} (hs : s.CursorOk) (hx : NoFault x) : ieOp x s ≠ .fault f :=
  callOp_ne_fault hs (.bind noFault_moves.checkCqich' fun _ => .bind (.of_modS fun _ => rfl) fun _ => hx)

theorem ieCommand_ne_fault (d : Dir) (fam : Family) (hs : s.CursorOk) : ieCommand d fam s ≠ .fault f :=
  ieOp_ne_fault hs (.bind (noFault_moves.checkCompact' fam) fun _ => .bind (.of_modS fun _ => rfl) fun _ =>
    noFault_moves.closedAll.decodeIe' d fam)

/-- A message places the cursor anew before it decodes. -/
theorem msgCommand_ne_fault (k : MsgKind) (hs : s.CursorOk) : msgCommand k s ≠ .fault f :=
  callOp_ne_fault hs (.bind noFault_moves.checkCqich' fun _ => .bind (.of_initCursor s.inp.start) fun _ =>
    .bind (noFault_moves.checkCompact' _) fun _ => .bind (.of_modS fun _ => rfl) fun _ => noFault_moves.segment' k)

/-! ### Instructions and steps -/

/-- No instruction faults from a cursor in order: each is an operation around sub-steps made of the atoms. -/
theorem exec_ne_fault (i : Instr) (hs : s.CursorOk) : exec i s ≠ .fault f := by
  have m := noFault_moves
  have c := noFault_moves.closedAll
  cases i
  case init p => exact unitOp_ne_fault hs (.bind (.of_initCursor _) fun _ => m.pure' _)
  case read | readn => exact unitOp_ne_fault hs (.bind (m.readBits' _) fun _ => m.pure' _)
  case skip | skipn => exact unitOp_ne_fault hs (.bind (m.moveBits' _) fun _ => m.pure' _)
  case padn => exact unitOp_ne_fault hs (.bind c.padNibble' fun _ => m.pure' _)
  case padb => exact unitOp_ne_fault hs (.bind c.padByte' fun _ => m.pure' _)
  case rem | remn => exact unitOp_ne_fault hs (.bind m.getS' fun _ => m.pure' _)
  case pushlim => exact unitOp_ne_fault hs (.bind (m.pushLimit' _) fun _ => m.pure' _)
  case poplim => exact unitOp_ne_fault hs (.bind m.popLimit' fun _ => m.pure' _)
  case rcid => exact unitOp_ne_fault hs (.bind m.rcidOp' fun _ => m.pure' _)
  case rcidN16 => exact unitOp_ne_fault hs (.bind c.rcidNormal16' fun _ => m.pure' _)
  case rcidP1 | rcidP0_11 | rcidP0_7 | rcidP0_3 =>
    exact unitOp_ne_fault hs (.bind (c.rcidPrefixed' _) fun _ => m.pure' _)
  case rd48 | rd64 => exact unitOp_ne_fault hs (.bind (m.readTwo' _ _) fun _ => m.pure' _)
  case crc16 => exact unitOp_ne_fault hs (.bind m.calc16' fun _ => m.pure' _)
  case crc32 => exact unitOp_ne_fault hs (.bind m.calc32' fun _ => m.pure' _)
  case verify16 | trailer16 => exact unitOp_ne_fault hs (.bind c.verify16Op' fun _ => m.pure' _)
  case verify32 | trailer32 => exact unitOp_ne_fault hs (.bind c.verify32Op' fun _ => m.pure' _)
  case ieDlLegacy | ieUlLegacy | ieDlCompact | ieUlCompact => exact ieCommand_ne_fault _ _ hs
  case msgDlMap | msgUlMap | msgCompactDlMap | msgCompactUlMap | msgRaasPrivateMap => exact msgCommand_ne_fault _ hs
  case msgReservedKind5 | msgReservedKind6 | msgReservedKind7 | reserved => nofun
  case regType0 | regType1 | regType2 | regType3 | regType4 | regType5 | regType6 | regType7 | regType8 | regType9 |
      regType10 | gapPapr =>
    exact ieOp_ne_fault hs (c.regularRow' _ _)
  case l0Unassigned11 | l0Unassigned12 => exact ieOp_ne_fault hs (c.unassignedRow' _ _)
  case extended2 => exact ieOp_ne_fault hs (c.extended2Row' _)
  case extended | extendedUplink => exact ieOp_ne_fault hs (c.extendedRow' _)
  case channelMeasurement | aas | dataLocationOtherBs | harqMapPointer | phyModifier | broadcastControlPointer |
      puscBurstOtherSegment | interferenceNoiseLevel =>
    exact ieOp_ne_fault hs (c.level1Plain' _ _ fun _ => m.refuse' _)
  case stcZone => exact ieOp_ne_fault hs (c.level1Row' _ fun _ _ _ => c.bodyArm' (c.ruleStcZone' c.topCall' _))
  case cidSwitch => exact ieOp_ne_fault hs (c.level1Row' _ fun _ _ _ => c.bodyArm' c.ruleCidSwitch')
  case mimoBasic | mimoEnhanced => exact ieOp_ne_fault hs (c.level1Skip' _)
  case unknownL1Code9 | unknownL1Code12 | unknownL1Code13 | unknownL1Code14 =>
    exact ieOp_ne_fault hs (c.level1Unknown' _)
  case mbsMap | skipIe | harqAckBitmap | enhancedDlMap | aasSdma =>
    exact ieOp_ne_fault hs (c.level2Plain' _ _ fun _ => m.refuse' _)
  case harqMap => exact ieOp_ne_fault hs (c.level2Row' _ fun _ _ _ => c.bodyArm' (c.container' c.topCall' _))
  case handoverVariant1 | handoverVariant2 | handoverVariant3 => exact ieOp_ne_fault hs (c.level2Skip' _)
  case unknownL2Code4 | unknownL2Code5 | unknownL2Code10 | unknownL2Code11 | unknownL2Code12 | unknownL2Code13 |
      unknownL2Code15 =>
    exact ieOp_ne_fault hs (c.level2Unknown' _)
  case compactIe =>
    exact ieOp_ne_fault hs (.bind (m.checkCompact' _) fun _ => c.decodeCompactIe' c.topCall' _)
  case sbChase | sbIrCtc | sbIrCc | sbMimoChase | sbMimoIr | sbMimoIrCc | sbMimoStc | unknownSbMode7 | unknownSbMode8 |
      unknownSbMode9 | unknownSbMode10 | unknownSbMode11 | unknownSbMode12 | unknownSbMode13 | unknownSbMode14 |
      unknownSbMode15 =>
    exact ieOp_ne_fault hs (c.sbModeRow' _ _)

/-- Nor does a structure whose head is too short: it raises Truncated. -/
theorem shortHead_ne_fault (u : WireUnit) (hs : s.CursorOk) : shortHead u s ≠ .fault f := by
  cases u
  case ie | compact | sb => exact ieOp_ne_fault hs (noFault_moves.raise' _)
  case rcid | trailer16 | trailer32 => exact unitOp_ne_fault hs (noFault_moves.raise' _)

theorem rejected_ne_fault (e : Reject) (r : Request) (hs : s.CursorOk) : rejected e r s ≠ .fault f := by
  match e, r with
  | .shortHead, .wire u => exact shortHead_ne_fault u hs
  | .shortHead, .command _ _ => nofun
  | .shortHead, .pseudo _ => nofun
  | .badArgument, _ => nofun
  | .notAPseudo, _ => nofun

/-- What comes into place with a request leaves the cursor where it is. -/
theorem present_cursorOk (r : Request) (hs : s.CursorOk) : (present i r s).CursorOk := by
  rcases present_cases i r s with e | ⟨d, fam, e⟩ | ⟨_, a, e⟩ <;> rw [e]
  · exact hs
  · exact hs.of_regs rfl
  · exact hs.of_regs rfl

theorem runRequest_ne_fault (r : Request) (hs : s.CursorOk) : runRequest r s ≠ .fault f := by
  unfold runRequest
  split
  · exact exec_ne_fault _ (present_cursorOk r hs)
  · exact rejected_ne_fault _ r hs

/-- Settles O60: with an empty port the block waits, and a request meets the cursor the step found. -/
theorem noStepFaults : Obligations.NoStepFaults := by
  intro s f hs
  unfold step
  split
  · nofun
  · exact runRequest_ne_fault _ (hs.of_regs rfl)

end Sys2Proof.Machine
end

section
/-! PROOFS. The encoding (30_encoding.md): how each command word decodes (R91, R92), and that decoding undoes encoding (R91
to R104, R111). -/

namespace Sys2Proof

/-! ### A word in two parts -/

section Parts

variable {m n : Nat}

theorem exists_eq_append (x : BitVec (m + n)) : ∃ (hi : BitVec m) (lo : BitVec n), x = hi ++ lo :=
  ⟨_, _, BitVec.extractLsb'_append_extractLsb'.symm⟩

theorem toNat_append_eq_add (hi : BitVec m) (lo : BitVec n) : (hi ++ lo).toNat = hi.toNat * 2 ^ n + lo.toNat := by
  rw [BitVec.toNat_append, ← Nat.shiftLeft_add_eq_or_of_lt lo.isLt, Nat.shiftLeft_eq]

/-- The lower part does not reach `2^n`. -/
theorem two_pow_le_append_iff (hi : BitVec m) (lo : BitVec n) : 2 ^ n ≤ (hi ++ lo).toNat ↔ hi ≠ 0 := by
  rw [toNat_append_eq_add]
  constructor
  · rintro h rfl
    exact absurd lo.isLt (by simpa using h)
  · intro h
    have hpos : 0 < hi.toNat := Nat.pos_of_ne_zero fun h0 => h (BitVec.eq_of_toNat_eq (by simpa using h0))
    exact (Nat.le_mul_of_pos_left _ hpos).trans (Nat.le_add_right _ _)

theorem toNat_append_mod (hi : BitVec m) (lo : BitVec n) : (hi ++ lo).toNat % 2 ^ n = lo.toNat := by
  rw [toNat_append_eq_add, Nat.mul_add_mod_self_right, Nat.mod_eq_of_lt lo.isLt]

end Parts

/-- A command word is its two fields. -/
theorem cmdWord_cmdOp_cmdArg (w : CmdWord) : cmdWord (cmdOp w) (cmdArg w) = w := by
  obtain ⟨op, arg, rfl⟩ := exists_eq_append (m := 4) (n := 32) w
  rw [← cmdWord, cmdOp_cmdWord, cmdArg_cmdWord]

/-! ### The rows of the command table (30_encoding.md R91), by the form of their argument -/

/-- The operations whose argument is any 32 bits. -/
def wholeArgRows : List (BitVec 4 × (BitVec 32 → Instr)) :=
  [(0, .init), (2, .skip), (6, .pushlim), (15, .reserved)]

/-- The operations without an operand. -/
def noArgRows : List (BitVec 4 × Instr) :=
  [(3, .padn), (4, .padb), (5, .rem), (7, .poplim), (8, .rcid), (9, .crc16), (10, .crc32), (11, .verify16),
   (12, .verify32)]

/-- The IE commands by `arg[1:0]`. -/
def ieRows : List (BitVec 2 × Instr) := [(0, .ieDlLegacy), (1, .ieUlLegacy), (2, .ieDlCompact), (3, .ieUlCompact)]

/-- The MSG commands by `arg[2:0]`. -/
def msgRows : List (BitVec 3 × Instr) :=
  [(0, .msgDlMap), (1, .msgUlMap), (2, .msgCompactDlMap), (3, .msgCompactUlMap), (4, .msgRaasPrivateMap)]

/-- The reserved message kinds, each with the bits above them. -/
def reservedKindRows : List (BitVec 3 × (BitVec 29 → Instr)) :=
  [(5, .msgReservedKind5), (6, .msgReservedKind6), (7, .msgReservedKind7)]

theorem opcode_cases (op : BitVec 4) :
    (∃ mk, (op, mk) ∈ wholeArgRows) ∨ op = 1 ∨ (∃ i, (op, i) ∈ noArgRows) ∨ op = 13 ∨ op = 14 := by
  have h : ∀ op : BitVec 4,
      op ∈ wholeArgRows.map Prod.fst ∨ op = 1 ∨ op ∈ noArgRows.map Prod.fst ∨ op = 13 ∨ op = 14 := by decide
  simpa [List.mem_map] using h op

theorem ie_arg_cases (k : BitVec 2) : ∃ i, (k, i) ∈ ieRows := by
  have h : ∀ k : BitVec 2, k ∈ ieRows.map Prod.fst := by decide
  simpa [List.mem_map] using h k

theorem msg_kind_cases (k : BitVec 3) : (∃ i, (k, i) ∈ msgRows) ∨ ∃ mk, (k, mk) ∈ reservedKindRows := by
  have h : ∀ k : BitVec 3, k ∈ msgRows.map Prod.fst ∨ k ∈ reservedKindRows.map Prod.fst := by decide
  simpa [List.mem_map] using h k

/-! ### What a word of each form decodes to -/

section Rows

variable {op : BitVec 4} {i : Instr}

theorem decodeCmd_wholeArg {mk : BitVec 32 → Instr} (h : (op, mk) ∈ wholeArgRows) (arg : BitVec 32) :
    decodeCmd (cmdWord op arg) = .ok (mk arg) := by
  simp only [wholeArgRows, List.mem_cons, Prod.mk.injEq, List.not_mem_nil, or_false] at h
  rcases h with ⟨rfl, rfl⟩ | ⟨rfl, rfl⟩ | ⟨rfl, rfl⟩ | ⟨rfl, rfl⟩ <;> simp [decodeCmd, cmdOp_cmdWord, cmdArg_cmdWord]

theorem encode_wholeArg {mk : BitVec 32 → Instr} (h : (op, mk) ∈ wholeArgRows) (arg : BitVec 32) :
    encode (mk arg) = .cmd (cmdWord op arg) := by
  have rows : ∀ p ∈ wholeArgRows, encode (p.2 arg) = .cmd (cmdWord p.1 arg) := by simp [wholeArgRows, encode]
  exact rows _ h

theorem decodeCmd_noArg (h : (op, i) ∈ noArgRows) (arg : BitVec 32) :
    decodeCmd (cmdWord op arg) = if arg = 0 then .ok i else .error .badArgument := by
  simp only [noArgRows, List.mem_cons, Prod.mk.injEq, List.not_mem_nil, or_false] at h
  rcases h with ⟨rfl, rfl⟩ | ⟨rfl, rfl⟩ | ⟨rfl, rfl⟩ | ⟨rfl, rfl⟩ | ⟨rfl, rfl⟩ | ⟨rfl, rfl⟩ | ⟨rfl, rfl⟩ | ⟨rfl, rfl⟩ |
      ⟨rfl, rfl⟩ <;>
    simp [decodeCmd, cmdOp_cmdWord, cmdArg_cmdWord, decodeNoArg]

theorem encode_noArg (h : (op, i) ∈ noArgRows) : encode i = .cmd (cmdWord op 0) := by
  have rows : ∀ p ∈ noArgRows, encode p.2 = .cmd (cmdWord p.1 0) := by decide
  exact rows _ h

theorem decodeCmd_readArg (hi : BitVec 26) (w : BitVec 6) :
    decodeCmd (cmdWord 1 (hi ++ w)) = if hi = 0 then .ok (.read w) else .error .badArgument := by
  simp only [decodeCmd, cmdOp_cmdWord, cmdArg_cmdWord, decodeRead]
  rw [BitVec.extractLsb'_append_eq_left (a := hi), BitVec.extractLsb'_append_eq_right (b := w)]
  rfl

theorem decodeCmd_ieArg {k : BitVec 2} (h : (k, i) ∈ ieRows) (hi : BitVec 30) :
    decodeCmd (cmdWord 13 (hi ++ k)) = if hi = 0 then .ok i else .error .badArgument := by
  simp only [decodeCmd, cmdOp_cmdWord, cmdArg_cmdWord, decodeIeCmd]
  rw [BitVec.extractLsb'_append_eq_left (a := hi), BitVec.extractLsb'_append_eq_right (b := k)]
  simp only [ieRows, List.mem_cons, Prod.mk.injEq, List.not_mem_nil, or_false] at h
  rcases h with ⟨rfl, rfl⟩ | ⟨rfl, rfl⟩ | ⟨rfl, rfl⟩ | ⟨rfl, rfl⟩ <;> rfl

theorem encode_ieArg {k : BitVec 2} (h : (k, i) ∈ ieRows) : encode i = .cmd (cmdWord 13 ((0 : BitVec 30) ++ k)) := by
  have rows : ∀ p ∈ ieRows, encode p.2 = .cmd (cmdWord 13 ((0 : BitVec 30) ++ p.1)) := by decide
  exact rows _ h

theorem decodeCmd_msgArg {k : BitVec 3} (h : (k, i) ∈ msgRows) (hi : BitVec 29) :
    decodeCmd (cmdWord 14 (hi ++ k)) = if hi = 0 then .ok i else .error .badArgument := by
  simp only [decodeCmd, cmdOp_cmdWord, cmdArg_cmdWord, decodeMsgCmd]
  rw [BitVec.extractLsb'_append_eq_left (a := hi), BitVec.extractLsb'_append_eq_right (b := k)]
  simp only [msgRows, List.mem_cons, Prod.mk.injEq, List.not_mem_nil, or_false] at h
  rcases h with ⟨rfl, rfl⟩ | ⟨rfl, rfl⟩ | ⟨rfl, rfl⟩ | ⟨rfl, rfl⟩ | ⟨rfl, rfl⟩ <;> rfl

theorem encode_msgArg {k : BitVec 3} (h : (k, i) ∈ msgRows) : encode i = .cmd (cmdWord 14 ((0 : BitVec 29) ++ k)) := by
  have rows : ∀ p ∈ msgRows, encode p.2 = .cmd (cmdWord 14 ((0 : BitVec 29) ++ p.1)) := by decide
  exact rows _ h

theorem decodeCmd_reservedKind {k : BitVec 3} {mk : BitVec 29 → Instr} (h : (k, mk) ∈ reservedKindRows)
    (hi : BitVec 29) : decodeCmd (cmdWord 14 (hi ++ k)) = .ok (mk hi) := by
  simp only [decodeCmd, cmdOp_cmdWord, cmdArg_cmdWord, decodeMsgCmd]
  rw [BitVec.extractLsb'_append_eq_left (a := hi), BitVec.extractLsb'_append_eq_right (b := k)]
  simp only [reservedKindRows, List.mem_cons, Prod.mk.injEq, List.not_mem_nil, or_false] at h
  rcases h with ⟨rfl, rfl⟩ | ⟨rfl, rfl⟩ | ⟨rfl, rfl⟩ <;> rfl

theorem encode_reservedKind {k : BitVec 3} {mk : BitVec 29 → Instr} (h : (k, mk) ∈ reservedKindRows)
    (hi : BitVec 29) : encode (mk hi) = .cmd (cmdWord 14 (hi ++ k)) := by
  have rows : ∀ p ∈ reservedKindRows, encode (p.2 hi) = .cmd (cmdWord 14 (hi ++ p.1)) := by
    simp [reservedKindRows, encode]
  exact rows _ h

theorem encode_readArg (w : BitVec 6) : encode (.read w) = .cmd (cmdWord 1 ((0 : BitVec 26) ++ w)) := by
  have e : w.setWidth 32 = (0 : BitVec 26) ++ w :=
    BitVec.eq_of_toNat_eq (by rw [toNat_append_eq_add, BitVec.toNat_setWidth_of_le (by omega)]; simp)
  rw [encode, e]

end Rows

/-! ### Every command word: rejected for its argument, or the code of what it decodes to (30_encoding.md R91, R92) -/

/-- The word is rejected for its argument if `bad`; else it decodes to an instruction whose code it is. -/
def DecodesUnless (bad : Prop) (op : BitVec 4) (arg : BitVec 32) : Prop :=
  (bad ∧ decodeCmd (cmdWord op arg) = .error .badArgument) ∨
    (¬bad ∧ ∃ i, decodeCmd (cmdWord op arg) = .ok i ∧ encode i = .cmd (cmdWord op arg))

namespace DecodesUnless

variable {bad bad' : Prop} {op : BitVec 4} {arg : BitVec 32} {i : Instr}

theorem of_ok (hb : ¬bad) (hd : decodeCmd (cmdWord op arg) = .ok i) (he : encode i = .cmd (cmdWord op arg)) :
    DecodesUnless bad op arg := .inr ⟨hb, i, hd, he⟩

/-- A word whose upper part must be zero. -/
theorem of_mbz {k : Nat} {z x : BitVec k}
    (hd : decodeCmd (cmdWord op arg) = if x = z then .ok i else .error .badArgument)
    (he : x = z → encode i = .cmd (cmdWord op arg)) : DecodesUnless (x ≠ z) op arg := by
  by_cases hx : x = z
  · exact .of_ok (not_not.mpr hx) (by rw [hd, if_pos hx]) (he hx)
  · exact .inl ⟨hx, by rw [hd, if_neg hx]⟩

theorem congr (h : DecodesUnless bad op arg) (e : bad ↔ bad') : DecodesUnless bad' op arg :=
  propext e ▸ h

theorem rejected_iff (h : DecodesUnless bad op arg) : decodeCmd (cmdWord op arg) = .error .badArgument ↔ bad := by
  rcases h with ⟨hb, e⟩ | ⟨hb, i, e, -⟩ <;> simp [hb, e]

theorem encode_eq (h : DecodesUnless bad op arg) (hd : decodeCmd (cmdWord op arg) = .ok i) :
    encode i = .cmd (cmdWord op arg) := by
  rcases h with ⟨-, e⟩ | ⟨-, j, e, he⟩ <;> rw [hd] at e <;> cases e
  exact he

end DecodesUnless

theorem decodesUnless_read (arg : BitVec 32) : DecodesUnless (64 ≤ arg.toNat) 1 arg := by
  obtain ⟨hi, w, rfl⟩ := exists_eq_append (m := 26) (n := 6) arg
  refine (DecodesUnless.of_mbz (decodeCmd_readArg hi w) ?_).congr (two_pow_le_append_iff hi w).symm
  rintro rfl
  exact encode_readArg w

theorem decodesUnless_ie (arg : BitVec 32) : DecodesUnless (4 ≤ arg.toNat) 13 arg := by
  obtain ⟨hi, k, rfl⟩ := exists_eq_append (m := 30) (n := 2) arg
  obtain ⟨i, hk⟩ := ie_arg_cases k
  refine (DecodesUnless.of_mbz (decodeCmd_ieArg hk hi) ?_).congr (two_pow_le_append_iff hi k).symm
  rintro rfl
  exact encode_ieArg hk

theorem decodesUnless_msg (arg : BitVec 32) :
    DecodesUnless (8 ≤ arg.toNat ∧ arg.toNat % 8 ≤ 4) 14 arg := by
  obtain ⟨hi, k, rfl⟩ := exists_eq_append (m := 29) (n := 3) arg
  have hmod := toNat_append_mod hi k
  have hmsg : ∀ p ∈ msgRows, p.1.toNat ≤ 4 := by decide
  have hres : ∀ p ∈ reservedKindRows, ¬p.1.toNat ≤ 4 := by simp [reservedKindRows]
  rcases msg_kind_cases k with ⟨i, hk⟩ | ⟨mk, hk⟩
  · refine (DecodesUnless.of_mbz (decodeCmd_msgArg hk hi) ?_).congr
      ((two_pow_le_append_iff hi k).symm.trans (and_iff_left (hmod ▸ hmsg _ hk)).symm)
    rintro rfl
    exact encode_msgArg hk
  · exact .of_ok (fun h => hres _ hk (hmod ▸ h.2)) (decodeCmd_reservedKind hk hi) (encode_reservedKind hk hi)

/-- Which must-be-zero bits a command word has, and that they are not all zero (30_encoding.md R91). -/
def MbzNonzero (op : BitVec 4) (arg : BitVec 32) : Prop :=
  (op = 1 ∧ 64 ≤ arg.toNat) ∨
    (op ∈ [3, 4, 5, 7, 8, 9, 10, 11, 12] ∧ arg ≠ 0) ∨
    (op = 13 ∧ 4 ≤ arg.toNat) ∨ (op = 14 ∧ 8 ≤ arg.toNat ∧ arg.toNat % 8 ≤ 4)

/-- Every command word, by the form of its argument. -/
theorem decodesUnless_mbzNonzero (op : BitVec 4) (arg : BitVec 32) : DecodesUnless (MbzNonzero op arg) op arg := by
  rcases opcode_cases op with ⟨mk, h⟩ | rfl | ⟨i, h⟩ | rfl | rfl
  · have hop : ∀ p ∈ wholeArgRows, ¬MbzNonzero p.1 arg := by simp [wholeArgRows, MbzNonzero]
    exact .of_ok (hop _ h) (decodeCmd_wholeArg h arg) (encode_wholeArg h arg)
  · exact (decodesUnless_read arg).congr (by simp [MbzNonzero])
  · have hop : ∀ p ∈ noArgRows, (arg ≠ 0 ↔ MbzNonzero p.1 arg) := by simp [noArgRows, MbzNonzero]
    refine (DecodesUnless.of_mbz (decodeCmd_noArg h arg) ?_).congr (hop _ h)
    rintro rfl
    exact encode_noArg h
  · exact (decodesUnless_ie arg).congr (by simp [MbzNonzero])
  · exact (decodesUnless_msg arg).congr (by simp [MbzNonzero])

/-- Settles O2: the command word is its operation and its argument, and every such word that decodes is a code. -/
theorem decodeThenEncodeCommand : Obligations.DecodeThenEncodeCommand := by
  intro w i h
  rw [← cmdWord_cmdOp_cmdArg w] at h ⊢
  exact (decodesUnless_mbzNonzero _ _).encode_eq h

/-! ### Decoding undoes encoding -/

/-- Commands. -/
theorem decodeCmd_of_encode {i : Instr} {w : CmdWord} (h : encode i = .cmd w) : decodeCmd w = .ok i := by
  cases i
  case init | skip | pushlim | reserved => cases h; exact decodeCmd_wholeArg (by simp [wholeArgRows]) _
  case read => cases h; exact decodeCmd_read _
  case padn | padb | rem | poplim | rcid | crc16 | crc32 | verify16 | verify32 | ieDlLegacy | ieUlLegacy |
      ieDlCompact | ieUlCompact | msgDlMap | msgUlMap | msgCompactDlMap | msgCompactUlMap | msgRaasPrivateMap =>
    cases h; rfl
  case msgReservedKind5 | msgReservedKind6 | msgReservedKind7 =>
    cases h; exact decodeCmd_reservedKind (by simp [reservedKindRows]) _
  all_goals cases h

theorem decode_encode_command {c : Params} {i : Instr} {w : CmdWord} (h : encode i = .cmd w) :
    decode c (encode i) = .ok i := by
  rw [h]
  exact decodeCmd_of_encode h

/-- Four bits written and read back. -/
theorem takeField_nib {v : Nat} (hv : v < 16) (rest : List Bool) : takeField 4 (nib v ++ rest) = some (v, rest) := by
  have hval : ∀ v < 16, bitsVal (nib v) = v := by decide
  have hlen : ¬(nib v ++ rest).length < 4 := by simp [nib]
  have htake : (nib v ++ rest).take 4 = nib v := rfl
  rw [takeField, if_neg hlen, htake, hval v hv]
  rfl

theorem takeField_nib_end {v : Nat} (hv : v < 16) : takeField 4 (nib v) = some (v, []) := takeField_nib hv []

/-- A Level-0 head of four bits, and what follows it. -/
theorem decodeL0_nib {c : Params} (hc : c.doc.l0TypeBits = 4) (d : Dir) {t : Nat} (ht : t < 16) (rest : List Bool) :
    decodeL0 c d (nib t ++ rest) = .ok (l0Row c d t rest) := by
  rw [decodeL0, hc, takeField_nib ht]

/-- A Level-0 head alone is the row of its code (30_encoding.md R95). -/
theorem decode_l0Head {t : Nat} (ht : t < 16) :
    decode Params.default (l0Head t) = .ok (l0Row Params.default .dl t []) :=
  decodeL0_nib (c := Params.default) rfl .dl ht []

/-- An Extended head is the row that the map of R98 gives its sub-type (30_encoding.md R96). -/
theorem decode_extHead {v : Nat} (hv : v < 16) :
    decode Params.default (extHead v) = .ok (l1Row v (Maps.defaultL1Dl.lookup v)) := by
  have hrow : l0Row Params.default .dl 15 (nib v) = l1Row v (Maps.defaultL1Dl.lookup v) := by
    have hsub : takeField Params.default.doc.subtypeBits (nib v) = some (v, []) := takeField_nib_end hv
    simp only [l0Row, decodeExtended, hsub]
    rfl
  rw [← hrow]
  exact decodeL0_nib (c := Params.default) (t := 15) rfl .dl (by decide) (nib v)

/-- An Extended-2 head is the row that the map of R100 gives its sub-type (30_encoding.md R99). -/
theorem decode_ext2Head {v : Nat} (hv : v < 16) :
    decode Params.default (ext2Head v) = .ok (l2Row v (Maps.defaultL2Dl.lookup v)) := by
  have hrow : l0Row Params.default .dl 14 (nib v) = l2Row v (Maps.defaultL2Dl.lookup v) := by
    have hsub : takeField Params.default.doc.subtypeBits (nib v) = some (v, []) := takeField_nib_end hv
    simp only [l0Row, decodeExtended2, hsub]
    rfl
  rw [← hrow]
  exact decodeL0_nib (c := Params.default) (t := 14) rfl .dl (by decide) (nib v)

/-- A mode field is the row that the map of R101 gives its mode. -/
theorem decode_sbHead {m : Nat} (hm : m < 16) :
    decode Params.default (sbHead m) = .ok (sbRow m (Maps.defaultSb.lookup m)) := by
  have hmode : decodeMode Params.default .dl (nib m) = .ok (sbRow m (Maps.defaultSb.lookup m)) := by
    rw [decodeMode, takeField_nib_end hm]
    rfl
  exact hmode

/-- READN: its width fits the six bits of READ. -/
theorem decodePseudo_readn {k : Nat} (hk : k ≤ 8) :
    decodePseudo [cmdWord 0x1 ((BitVec.ofNat 6 (4 * k)).setWidth 32)] = .ok (.readn k) := by
  have hw : (BitVec.ofNat 6 (4 * k)).toNat = 4 * k := by rw [BitVec.toNat_ofNat]; omega
  rw [decodePseudo_read _ (by omega), hw, Nat.mul_div_cancel_left k (by omega)]

/-- SKIPN: its width fits the argument of SKIP. -/
theorem decodePseudo_skipn {k : Nat} (hk : 4 * k < 2 ^ 32) :
    decodePseudo [cmdWord 0x2 (BitVec.ofNat 32 (4 * k))] = .ok (.skipn k) := by
  have hw : (BitVec.ofNat 32 (4 * k)).toNat = 4 * k := by rw [BitVec.toNat_ofNat]; omega
  rw [decodePseudo_skip _ (by omega), hw, Nat.mul_div_cancel_left k (by omega)]

/-- Settles O1: the codes by their kind, a command word, a head of four bits or of two fields of four, a first bit of
an RCID, a trailer, and the words of a pseudo-operation. -/
theorem encodeThenDecode : Obligations.EncodeThenDecode := by
  intro i hwf
  cases i
  case init | read | skip | padn | padb | rem | pushlim | poplim | rcid | crc16 | crc32 | verify16 | verify32 |
      ieDlLegacy | ieUlLegacy | ieDlCompact | ieUlCompact | msgDlMap | msgUlMap | msgCompactDlMap | msgCompactUlMap |
      msgRaasPrivateMap | msgReservedKind5 | msgReservedKind6 | msgReservedKind7 | reserved =>
    exact decode_encode_command rfl
  case regType0 | regType1 | regType2 | regType3 | regType4 | regType5 | regType6 | regType7 | regType8 | regType9 |
      regType10 | l0Unassigned11 | l0Unassigned12 | gapPapr | extended2 | extended =>
    exact decode_l0Head (by decide)
  case extendedUplink => rfl
  case channelMeasurement | stcZone | aas | dataLocationOtherBs | cidSwitch | mimoBasic | mimoEnhanced |
      harqMapPointer | phyModifier | unknownL1Code9 | broadcastControlPointer | puscBurstOtherSegment |
      unknownL1Code12 | unknownL1Code13 | unknownL1Code14 | interferenceNoiseLevel =>
    exact decode_extHead (by decide)
  case mbsMap | handoverVariant1 | handoverVariant2 | handoverVariant3 | unknownL2Code4 | unknownL2Code5 | skipIe |
      harqMap | harqAckBitmap | enhancedDlMap | unknownL2Code10 | unknownL2Code11 | unknownL2Code12 |
      unknownL2Code13 | aasSdma | unknownL2Code15 =>
    exact decode_ext2Head (by decide)
  case sbChase | sbIrCtc | sbIrCc | sbMimoChase | sbMimoIr | sbMimoIrCc | sbMimoStc | unknownSbMode7 |
      unknownSbMode8 | unknownSbMode9 | unknownSbMode10 | unknownSbMode11 | unknownSbMode12 | unknownSbMode13 |
      unknownSbMode14 | unknownSbMode15 =>
    exact decode_sbHead (by decide)
  case rcidN16 | rcidP1 | rcidP0_11 | rcidP0_7 | rcidP0_3 | trailer16 | trailer32 | compactIe => rfl
  case rd48 | rd64 | remn => rfl
  case readn k => exact decodePseudo_readn (of_decide_eq_true hwf)
  case skipn k => exact decodePseudo_skipn (of_decide_eq_true hwf)

/-- Settles O3: each of the ten is the code of its row. -/
theorem sampleWordsDecode : Obligations.SampleWordsDecode :=
  ⟨encodeThenDecode (.read 32) rfl, encodeThenDecode (.pushlim 16) rfl, encodeThenDecode .ieUlCompact rfl,
    encodeThenDecode .msgRaasPrivateMap rfl, encodeThenDecode .regType7 rfl, encodeThenDecode .cidSwitch rfl,
    encodeThenDecode .extendedUplink rfl, encodeThenDecode .harqMap rfl, encodeThenDecode .sbMimoStc rfl,
    encodeThenDecode .rcidP1 rfl⟩

end Sys2Proof
end

section
/-! PROOFS. What a step makes of its request (30_encoding.md R91, R92; 60_exceptions.md R283), and the RCID forms and
trailers run by themselves (30_encoding.md R102, R103). -/

namespace Sys2Proof.Machine

variable {i : Instr} {s t : State} {r : Request} {rest : List Request}

/-! ### The request of a step -/

/-- What a request decodes to does not depend on the requests that wait behind it. -/
theorem fetchInstr_setPort (s : State) (rest : List Request) (r : Request) :
    fetchInstr { s with port := rest } r = fetchInstr s r := by
  cases r <;> rfl

theorem step_of_empty (hp : s.port = []) : step s = .next s := by
  rw [step, hp]

theorem step_of_request (hp : s.port = r :: rest) : step s = runRequest r { s with port := rest } := by
  rw [step, hp]

/-- A request that is an instruction runs as that instruction, with what accompanies it in place. -/
theorem step_of_instr (hp : s.port = r :: rest) (hf : fetchInstr s r = .ok i) :
    step s = exec i (present i r { s with port := rest }) := by
  rw [step_of_request hp, runRequest, fetchInstr_setPort, hf]

/-- A request that is no instruction is rejected. -/
theorem step_of_reject {e : Reject} (hp : s.port = r :: rest) (hf : fetchInstr s r = .error e) :
    step s = rejected e r { s with port := rest } := by
  rw [step_of_request hp, runRequest, fetchInstr_setPort, hf]

/-- INIT and MSG bring the buffer and the inputs. -/
theorem present_of_loadsBuffer (hl : loadsBuffer i = true) (w : CmdWord) (a : Accompaniment) (s : State) :
    present i (.command w (some a)) s = s.accept a := if_pos hl

/-- Settles O4: a command word is fetched by decoding it. -/
theorem stepRunsTheRequest : Obligations.StepRunsTheRequest := by
  refine ⟨fun s => step_of_empty, fun s r rest i => step_of_instr, fun s w rest i hp hd => ?_,
    fun s w a rest i hp hd hl => ?_⟩
  · exact step_of_instr hp hd
  · rw [step_of_instr hp hd, present_of_loadsBuffer hl]
    rfl

/-! ### Reserved commands -/

theorem exec_reserved (a : BitVec 32) (s : State) : exec (.reserved a) s = .refused .reservedOp :=
  unitOp_of_refused (refuse_run _ s)

theorem exec_read_invalid {w : BitVec 6} (hw : s.cfg.doc.readMaxBits < w.toNat) :
    exec (.read w) s = .refused .invalidWidth :=
  unitOp_of_refused (bind_of_error (readBits_invalid hw))

/-- The three reserved kinds have one meaning. -/
theorem exec_reservedKind {k : BitVec 3} {mk : BitVec 29 → Instr} (h : (k, mk) ∈ reservedKindRows) (hi : BitVec 29)
    (s : State) : exec (mk hi) s = .refused .badArgument := by
  simp only [reservedKindRows, List.mem_cons, Prod.mk.injEq, List.not_mem_nil, or_false] at h
  rcases h with ⟨-, rfl⟩ | ⟨-, rfl⟩ | ⟨-, rfl⟩ <;> exact unitOp_of_refused (refuse_run _ s)

/-- Settles O5: the rows that are refused, and the command words that are no row for their must-be-zero bits. -/
theorem reservedCommandsAreRefused : Obligations.ReservedCommandsAreRefused := by
  refine ⟨exec_reserved, fun w s hr hw => exec_read_invalid (hr ▸ hw), fun hi s => ⟨?_, ?_, ?_⟩,
    fun s w a rest hp hd => ?_, fun op arg => (decodesUnless_mbzNonzero op arg).rejected_iff⟩
  · exact exec_reservedKind (k := 5) (by simp [reservedKindRows]) hi s
  · exact exec_reservedKind (k := 6) (by simp [reservedKindRows]) hi s
  · exact exec_reservedKind (k := 7) (by simp [reservedKindRows]) hi s
  · exact step_of_reject hp hd

/-! ### The RCID forms on the wire -/

theorem rcidNormal16_truncated (hr : 16 ≤ s.cfg.doc.readMaxBits) (h : s.effBound < s.pos + 16) :
    rcidNormal16 s = .error (.raised .truncated s.pos) s :=
  bind_of_error (readBits_truncated hr h)

/-- The first bit does not fit. -/
theorem rcidPrefixed_truncated {n : Nat} (hr : 1 ≤ s.cfg.doc.readMaxBits) (h : s.effBound < s.pos + 1) :
    rcidPrefixed n s = .error (.raised .truncated s.pos) s :=
  bind_of_error (readBits_truncated hr h)

/-- The first bit fits and is consumed, the identifier after it does not fit. -/
theorem rcidPrefixed_truncated_after {n : Nat} (hr : 1 ≤ s.cfg.doc.readMaxBits) (hn : n ≤ s.cfg.doc.readMaxBits)
    (h1 : s.pos + 1 ≤ s.effBound) (h : s.effBound < s.pos + 1 + n) :
    rcidPrefixed n s = .error (.raised .truncated (s.pos + 1)) (s.setPos (s.pos + 1)) := by
  have hid : rcidAfterPrefix n (s.setPos (s.pos + 1)) = .error (.raised .truncated (s.pos + 1)) (s.setPos (s.pos + 1)) :=
    bind_of_error (readBits_truncated (s := s.setPos (s.pos + 1)) hn (by simpa using h))
  exact (bind_of_ok (readBits_ok hr h1)).trans hid

/-- An identifier and its width, as the command port answers them. -/
def answerCid (x : D (Nat × Nat)) : D Response := do
  let c ← x
  pure (.cid c.1 c.2)

theorem unitOp_answerCid_ok {x : D (Nat × Nat)} {c w : Nat} (h : x s = .ok (c, w) t) :
    unitOp (answerCid x) s = .next (t.setResult (.cid c w)) :=
  unitOp_of_ok (bind_of_ok h)

theorem unitOp_answerCid_raised {x : D (Nat × Nat)} {e : ErrKind} {p : Nat} (h : x s = .error (.raised e p) t) :
    unitOp (answerCid x) s = .next (t.setResult (.error e p)) :=
  unitOp_of_raised (bind_of_error h)

/-- Form N16. -/
theorem exec_rcidN16 (hr : 16 ≤ s.cfg.doc.readMaxBits) :
    exec .rcidN16 s =
      if s.effBound < s.pos + 16 then .next (s.unitEnds s.pos (.error .truncated s.pos))
      else .next (s.unitEnds (s.pos + 16) (.cid (memRead s.mem s.pos 16) 16)) := by
  split
  · exact unitOp_answerCid_raised (rcidNormal16_truncated hr ‹_›)
  · exact unitOp_answerCid_ok (rcidNormal16_ok hr (Nat.le_of_not_lt ‹_›))

/-- The forms that begin with a bit before the identifier. -/
theorem unitOp_rcidPrefixed {n : Nat} (hr : 1 ≤ s.cfg.doc.readMaxBits) (hn : n ≤ s.cfg.doc.readMaxBits) :
    unitOp (answerCid (rcidPrefixed n)) s =
      if s.effBound < s.pos + 1 then .next (s.unitEnds s.pos (.error .truncated s.pos))
      else if s.effBound < s.pos + 1 + n then .next (s.unitEnds (s.pos + 1) (.error .truncated (s.pos + 1)))
      else .next (s.unitEnds (s.pos + 1 + n) (.cid (memRead s.mem (s.pos + 1) n) (n + 1))) := by
  split
  · exact unitOp_answerCid_raised (rcidPrefixed_truncated hr ‹_›)
  · have h1 := Nat.le_of_not_lt ‹¬s.effBound < s.pos + 1›
    split
    · exact unitOp_answerCid_raised (rcidPrefixed_truncated_after hr hn h1 ‹_›)
    · rw [unitOp_answerCid_ok (rcidPrefixed_ok hr hn (by omega)), show s.pos + (n + 1) = s.pos + 1 + n by omega]
      rfl

/-! ### The trailers on the wire -/

@[simp] theorem State.warnMismatch_pos (s : State) (b : Bool) (off info : Nat) :
    (s.warnMismatch b off info).pos = s.pos := by
  cases b <;> rfl

@[simp] theorem State.warnMismatch_out (s : State) (b : Bool) (off info : Nat) :
    (s.warnMismatch b off info).out = s.out := by
  cases b <;> rfl

/-- A trailer that fits is consumed and recorded, whether or not it matches. -/
theorem exec_trailer16_completes (hr : 16 ≤ s.cfg.doc.readMaxBits) (hp : s.pos ≤ s.total)
    (h : s.pos + 16 ≤ s.effBound) :
    ∃ t, exec .trailer16 s = .next t ∧ t.pos = s.pos + 16 ∧ t.out = s.out ++ [s.fieldRec .trailer16 s.pos 16] := by
  have hspan : s.pos / 8 ≤ s.len := by rw [State.total] at hp; omega
  exact ⟨_, unitOp_of_ok (bind_of_ok (verify16Op_ok hr (.inr hspan) h)), by simp, by simp [State.fieldRec]⟩

theorem exec_trailer32_completes (hr : 32 ≤ s.cfg.doc.readMaxBits) (hp : s.pos ≤ s.total)
    (h : s.pos + 32 ≤ s.effBound) :
    ∃ t, exec .trailer32 s = .next t ∧ t.pos = s.pos + 32 ∧ t.out = s.out ++ [s.fieldRec .trailer32 s.pos 32] := by
  have hspan : s.pos / 8 ≤ s.len := by rw [State.total] at hp; omega
  exact ⟨_, unitOp_of_ok (bind_of_ok (verify32Op_ok hr (.inr hspan) h)), by simp, by simp [State.fieldRec]⟩

/-- Settles O16: the four forms with a bit before the identifier differ in its width only, and a trailer is the VERIFY of
its width. -/
theorem wireFormsRead : Obligations.WireFormsRead := by
  refine ⟨fun s hr => exec_rcidN16 hr, fun p hp s hr => ?_, fun p hp s => ?_⟩ <;>
    simp only [List.mem_cons, List.not_mem_nil, or_false] at hp
  · rcases hp with rfl | rfl | rfl | rfl <;>
      exact unitOp_rcidPrefixed (Nat.le_trans (by decide) hr) (Nat.le_trans (by decide) hr)
  · rcases hp with rfl | rfl
    · exact ⟨rfl, fun hr => exec_trailer16_completes (Nat.le_trans (by decide) hr)⟩
    · exact ⟨rfl, exec_trailer32_completes⟩

end Sys2Proof.Machine
end

section
/-! PROOFS. The Bit Cursor's commands (40_bit_cursor.md R120 to R131), each as one equation: what it answers, and
the state it leaves. -/

namespace Sys2Proof.Machine

variable {s t : State}

/-! ### From sub-steps to answers -/

/-- A sub-step without a value, as the command port answers it. -/
def answerDone (x : D Unit) : D Response := do
  x
  pure .done

/-- A value, as the command port answers it. -/
def answerValue (x : D Nat) : D Response := do
  let v ← x
  pure (.value v)

theorem unitOp_answerDone_ok {x : D Unit} (h : x s = .ok () t) : unitOp (answerDone x) s = .next (t.setResult .done) :=
  unitOp_of_ok (bind_of_ok h)

theorem unitOp_answerDone_raised {x : D Unit} {e : ErrKind} {p : Nat} (h : x s = .error (.raised e p) t) :
    unitOp (answerDone x) s = .next (t.setResult (.error e p)) :=
  unitOp_of_raised (bind_of_error h)

theorem unitOp_answerDone_refused {x : D Unit} {r : Refusal} (h : x s = .error (.refused r) t) :
    unitOp (answerDone x) s = .refused r :=
  unitOp_of_refused (bind_of_error h)

theorem unitOp_answerValue_ok {x : D Nat} {v : Nat} (h : x s = .ok v t) :
    unitOp (answerValue x) s = .next (t.setResult (.value v)) :=
  unitOp_of_ok (bind_of_ok h)

theorem unitOp_answerValue_raised {x : D Nat} {e : ErrKind} {p : Nat} (h : x s = .error (.raised e p) t) :
    unitOp (answerValue x) s = .next (t.setResult (.error e p)) :=
  unitOp_of_raised (bind_of_error h)

/-! ### INIT -/

/-- Settles O6. -/
theorem initLoadsTheCursor : Obligations.InitLoadsTheCursor := by
  intro p s
  split
  next hbad => exact unitOp_answerDone_refused (initCursor_bad hbad)
  next hgood =>
    obtain ⟨hlen, hstart⟩ := not_or.mp hgood
    exact unitOp_answerDone_ok (initCursor_ok (Bool.eq_false_of_not_eq_true hlen) (Nat.le_of_not_lt hstart))

/-! ### READ and READN -/

/-- A READ no wider than one READ may be. -/
theorem unitOp_readBits {w : Nat} (hw : w ≤ s.cfg.doc.readMaxBits) :
    unitOp (answerValue (readBits w)) s =
      if s.effBound < s.pos + w then .next (s.unitEnds s.pos (.error .truncated s.pos))
      else .next (s.unitEnds (s.pos + w) (.value (memRead s.mem s.pos w))) := by
  split
  · exact unitOp_answerValue_raised (readBits_truncated hw ‹_›)
  · exact unitOp_answerValue_ok (readBits_ok hw (Nat.le_of_not_lt ‹_›))

/-- Settles O7: READN k is a READ of `4*k` bits. -/
theorem readReturnsTheField : Obligations.ReadReturnsTheField := by
  refine ⟨fun w s => ?_, fun k s hk => unitOp_readBits hk⟩
  by_cases hw : s.cfg.doc.readMaxBits < w.toNat
  · rw [if_pos hw]
    exact exec_read_invalid hw
  · rw [if_neg hw]
    exact unitOp_readBits (Nat.le_of_not_lt hw)

/-! ### SKIP, SKIPN, PADN and PADB -/

/-- A command that moves the cursor by `w` bits from where it stands. -/
theorem unitOp_of_moveBits {x : D Unit} {w : Nat} (h : x s = moveBits w s) :
    unitOp (answerDone x) s =
      if s.effBound < s.pos + w then .next (s.unitEnds s.pos (.error .truncated s.pos))
      else .next (s.unitEnds (s.pos + w) .done) := by
  split
  · exact unitOp_answerDone_raised (h.trans (moveBits_truncated ‹_›))
  · exact unitOp_answerDone_ok (h.trans (moveBits_ok (Nat.le_of_not_lt ‹_›)))

/-- Settles O8. -/
theorem skipMovesTheCursor : Obligations.SkipMovesTheCursor :=
  ⟨fun _ _ => unitOp_of_moveBits rfl, fun _ _ _ => unitOp_of_moveBits rfl⟩

theorem effBound_of_no_limit (h : s.limstk = []) : s.effBound = s.total := by
  rw [State.effBound, h]

/-- The buffer ends on a byte boundary, so padding to a byte never leaves it. -/
theorem padAmount_byte_inside (h : s.pos ≤ s.total) : s.pos + padAmount 8 s.pos ≤ s.total := by
  have hlt := padAmount_lt 8 s.pos (by decide)
  have haligned := padAmount_aligns 8 s.pos (by decide)
  rw [State.total] at h ⊢
  omega

/-- Settles O9. -/
theorem padsReachTheBoundary : Obligations.PadsReachTheBoundary := by
  refine fun s => ⟨unitOp_of_moveBits (x := padNibble) rfl, unitOp_of_moveBits (x := padByte) rfl,
    padAmount_lt 4 _ (by decide), padAmount_aligns 4 _ (by decide),
    padAmount_lt 8 _ (by decide), padAmount_aligns 8 _ (by decide), fun hlim hpos => ?_⟩
  rw [effBound_of_no_limit hlim]
  exact padAmount_byte_inside hpos

/-! ### REM and REMN -/

/-- A command that only looks at the state. -/
theorem unitOp_getS (f : State → Response) (s : State) :
    unitOp (do let s ← getS; pure (f s)) s = .next (s.setResult (f s)) :=
  unitOp_of_ok (getS_bind _ s)

/-- Settles O10. -/
theorem remainingBits : Obligations.RemainingBits :=
  fun s => ⟨unitOp_getS (fun s => .value s.rem) s, unitOp_getS (fun s => .value (s.rem / 4)) s⟩

/-! ### PUSHLIM and POPLIM -/

/-- Settles O11: the depth is looked at first, then the limit on top. -/
theorem pushLimitOpensARegion : Obligations.PushLimitOpensARegion := by
  intro n s
  split
  next hdepth => exact unitOp_answerDone_refused (pushLimit_overflow hdepth)
  next hdepth =>
    have hroom : s.limstk.length < s.cfg.doc.limDepth := Nat.lt_of_not_le hdepth
    split
    next hpast =>
      obtain ⟨b, hb, hlt⟩ := hpast
      have htop := List.eq_cons_of_mem_head? hb
      rw [htop, List.length_cons] at hroom
      exact unitOp_answerDone_raised (pushLimit_inconsistent htop hroom hlt)
    next hpast =>
      have hinside : ∀ b ∈ s.limstk.head?, s.pos + n.toNat ≤ b :=
        fun b hb => Nat.le_of_not_lt fun hlt => hpast ⟨b, hb, hlt⟩
      exact unitOp_answerDone_ok (pushLimit_ok hroom hinside)

/-- Settles O12. -/
theorem popLimitClosesARegion : Obligations.PopLimitClosesARegion :=
  fun _ =>
    ⟨fun h => unitOp_answerDone_refused (popLimit_underflow h), fun _ _ h => unitOp_answerDone_ok (popLimit_ok h)⟩

/-! ### RD48 and RD64 -/

/-- The first field does not fit. -/
theorem readTwo_truncated {a b : Nat} (ha : a ≤ s.cfg.doc.readMaxBits) (h : s.effBound < s.pos + a) :
    readTwo a b s = .error (.raised .truncated s.pos) s :=
  bind_of_error (readBits_truncated ha h)

/-- The first field fits and is consumed, the second does not fit. -/
theorem readTwo_truncated_after {a b : Nat} (ha : a ≤ s.cfg.doc.readMaxBits) (hb : b ≤ s.cfg.doc.readMaxBits)
    (h1 : s.pos + a ≤ s.effBound) (h : s.effBound < s.pos + a + b) :
    readTwo a b s = .error (.raised .truncated (s.pos + a)) (s.setPos (s.pos + a)) := by
  have hlo := readBits_truncated (s := s.setPos (s.pos + a)) hb (by simpa using h)
  exact (bind_of_ok (readBits_ok ha h1)).trans (bind_of_error hlo)

/-- Two READs in wire order. -/
theorem unitOp_readTwo {a b : Nat} (ha : a ≤ s.cfg.doc.readMaxBits) (hb : b ≤ s.cfg.doc.readMaxBits) :
    unitOp (answerValue (readTwo a b)) s =
      if s.effBound < s.pos + a then .next (s.unitEnds s.pos (.error .truncated s.pos))
      else if s.effBound < s.pos + a + b then .next (s.unitEnds (s.pos + a) (.error .truncated (s.pos + a)))
      else
        .next (s.unitEnds (s.pos + a + b) (.value (memRead s.mem s.pos a * 2 ^ b + memRead s.mem (s.pos + a) b))) := by
  split
  next hfirst => exact unitOp_answerValue_raised (readTwo_truncated ha hfirst)
  next hfirst =>
    have h1 := Nat.le_of_not_lt hfirst
    split
    · exact unitOp_answerValue_raised (readTwo_truncated_after ha hb h1 ‹_›)
    · rw [unitOp_answerValue_ok (readTwo_ok ha hb (by omega)), memRead_add, ← Nat.add_assoc]
      rfl

/-- Settles O13: the two differ in the width of the second READ only. -/
theorem doubleReads : Obligations.DoubleReads := by
  intro p hp s hr
  simp only [List.mem_cons, List.not_mem_nil, or_false] at hp
  rcases hp with rfl | rfl
  · exact unitOp_readTwo hr (Nat.le_trans (by decide) hr)
  · exact unitOp_readTwo hr hr

end Sys2Proof.Machine
end

section
/-! PROOFS. RCID (41_reduced_cid.md R150, R151): the form that `cid_type` and the first bit choose, the width it
consumes and the bound of the identifier. -/

namespace Sys2Proof.Machine

variable {s t : State}

/-! ### The form that is read -/

theorem rcidOp_normal16 (hc : s.session.cidType = .normal16) : rcidOp s = rcidNormal16 s := by
  simp only [rcidOp, getS_bind, if_pos hc]

/-- Under a reduced `cid_type`, RCID is a form of two READs, and the first bit selects how wide the second is; where
that bit cannot be read, every such form stops alike. -/
theorem rcidOp_eq_rcidPrefixed (hc : s.session.cidType ≠ .normal16) :
    rcidOp s = rcidPrefixed (rcidBits s.session.cidType (bufBit s.mem s.pos)) s := by
  simp only [rcidOp, getS_bind, if_neg hc, rcidPrefixed]
  rcases readBits_ok_or_stop 1 s with ⟨_, hread⟩ | ⟨_, _, hstop⟩
  · rw [bind_of_ok hread, bind_of_ok hread, memRead_one]
  · rw [bind_of_error hstop, bind_of_error hstop]

theorem exec_rcid_of_eq {x : D (Nat × Nat)} (h : rcidOp s = x s) : exec .rcid s = unitOp (answerCid x) s := by
  change unitOp (answerCid rcidOp) s = _
  simp only [unitOp, answerCid, bind_run, h]

/-- The table of R151: after a first bit 1 there are 11 bits whatever `cid_type` is, after 0 as many as
`cid_type` names. -/
theorem rcidBits_eq_ite {ty : CidType} (hc : ty ≠ .normal16) (pre : Nat) :
    rcidBits ty pre = if pre = 1 then 11 else if ty = .reduced11 then 11 else if ty = .reduced7 then 7 else 3 := by
  unfold rcidBits
  cases ty with
  | normal16 => exact absurd rfl hc
  | reduced11 | reduced7 | reduced3 => rfl

/-- Settles O15: RCID is form N16 under Normal16, else the form of two READs that the bit at POS selects. -/
theorem rcidFollowsTheSession : Obligations.RcidFollowsTheSession := by
  intro s hr
  split
  next hc => exact (exec_rcid_of_eq (rcidOp_normal16 hc)).trans (exec_rcidN16 hr)
  next hc =>
    have hn := Nat.le_trans (rcidBits_le s.session.cidType (bufBit s.mem s.pos)) hr
    rw [exec_rcid_of_eq (rcidOp_eq_rcidPrefixed hc), unitOp_rcidPrefixed (Nat.le_trans (by decide) hr) hn,
      rcidBits_eq_ite hc, memRead_one]

/-! ### The width and the bound of the identifier -/

theorem rcidBits_mem_of_reduced {ty : CidType} (hc : ty ≠ .normal16) (pre : Nat) : rcidBits ty pre ∈ [3, 7, 11] := by
  rw [rcidBits_eq_ite hc]
  split_ifs <;> simp

theorem State.rcidWidth_mem (s : State) : s.rcidWidth ∈ [4, 8, 12, 16] := by
  unfold State.rcidWidth
  split
  · simp
  · have := rcidBits_mem_of_reduced ‹_› (bufBit s.mem s.pos)
    simp only [List.mem_cons, List.not_mem_nil, or_false] at this ⊢
    omega

/-- An identifier takes the whole width in form N16, the width without the first bit in the others; only N16 is 16 bits
wide. -/
theorem State.rcidValue_lt (s : State) :
    s.rcidValue < 2 ^ (if s.rcidWidth = 16 then 16 else s.rcidWidth - 1) := by
  unfold State.rcidValue State.rcidWidth
  by_cases hc : s.session.cidType = .normal16
  · simpa [hc] using memRead_lt s.mem s.pos 16
  · have hle := rcidBits_reduced hc (bufBit s.mem s.pos)
    simp only [if_neg hc]
    rw [if_neg (by omega)]
    exact memRead_lt _ _ _

/-- An identifier is the port's answer only where the sub-step answered it. -/
theorem unitOp_answerCid_eq_cid {x : D (Nat × Nat)} {c w : Nat} (h : unitOp (answerCid x) s = .next t)
    (hres : t.result = .cid c w) : ∃ u, x s = .ok (c, w) u ∧ t = u.setResult (.cid c w) := by
  rcases unitOp_eq_next h with ⟨r, u, e, rfl⟩ | ⟨e', p, u, _, rfl⟩
  · obtain ⟨⟨c', w'⟩, u', hx, hpure⟩ := bind_eq_ok e
    obtain ⟨rfl, rfl⟩ := EStateM.Result.ok.inj hpure
    obtain ⟨rfl, rfl⟩ := Response.cid.inj hres
    exact ⟨_, hx, rfl⟩
  · exact nomatch hres

/-- RCID answers an identifier only where the whole of it is read. -/
theorem exec_rcid_eq_cid {c w : Nat} (h : exec .rcid s = .next t) (hres : t.result = .cid c w) :
    c = s.rcidValue ∧ w = s.rcidWidth ∧ t.pos = s.pos + s.rcidWidth := by
  obtain ⟨u, hok, rfl⟩ := unitOp_answerCid_eq_cid (x := rcidOp) h hres
  rcases rcidOp_cases s with ⟨_, e⟩ | ⟨_, _, e⟩ | ⟨_, _, _, e⟩ <;> rw [e] at hok
  · obtain ⟨hcw, rfl⟩ := EStateM.Result.ok.inj hok
    obtain ⟨rfl, rfl⟩ := Prod.mk.inj hcw
    exact ⟨rfl, rfl, rfl⟩
  · exact nomatch hok
  · exact nomatch hok

/-- Settles O17: the identifier at POS is what RCID answers, and its form gives the width and the bound. -/
theorem rcidWidthIsOneOfFour : Obligations.RcidWidthIsOneOfFour := by
  intro s t c w h hres
  obtain ⟨rfl, rfl, hpos⟩ := exec_rcid_eq_cid h hres
  exact ⟨s.rcidWidth_mem, hpos, s.rcidValue_lt⟩

end Sys2Proof.Machine
end

section
/-! PROOFS. How an IE operation runs and ends (42_ie_dispatch.md R160): its sub-step from the started state, whatever the
operation, and the one shape of every row of Level 1 and Level 2, the escapes among them (R170 to R172). -/

namespace Sys2Proof.Machine

variable {i : Instr} {s t u : State} {d : Dir} {lvl : Level} {w : Nat} {k : Option IeKind}

/-! ### The operation around a body -/

theorem callOp_congr {x y : D Unit} (h : x s = y t) : callOp x s = callOp y t := by
  rw [callOp, callOp, h]

/-- An operation that is DONE ended ok. -/
theorem callOp_eq_done {x : D Unit} (h : callOp x s = .next t) (hd : t.state = .done) :
    ∃ u, x s = .ok () u ∧ t = u.finish := by
  rcases callOp_eq_next h with hok | ⟨e, p, u, -, rfl⟩
  · exact hok
  · cases hd

/-- Two bodies that run alike from the started state make one operation, legal or not. -/
theorem ieOp_congr {x y : D Unit} (h : x s.startIe = y s.startIe) : ieOp x s = ieOp y s := by
  rcases Nat.lt_or_ge 9 s.inp.cqichIdWidth.toNat with hbad | hok
  · rw [ieOp_badConfig hbad, ieOp_badConfig hbad]
  · rw [ieOp_eq hok, ieOp_eq hok, callOp_congr h]

theorem ieOp_of_ok {x : D Unit} (hl : s.inp.cqichIdWidth.toNat ≤ 9) (h : x s.startIe = .ok () u) :
    ieOp x s = .next u.finish := by
  rw [ieOp_eq hl, callOp_of_ok h]

theorem ieOp_of_raised {x : D Unit} {e : ErrKind} {p : Nat} (hl : s.inp.cqichIdWidth.toNat ≤ 9)
    (h : x s.startIe = .error (.raised e p) u) : ieOp x s = .next (u.stop e p) := by
  rw [ieOp_eq hl, callOp_of_raised h]

/-! ### The rows of Level 1 and Level 2 -/

/-- An Extended or Extended-2 structure at POS, its body run by `arm`, which is told where the IE starts, the sub-type and
the body's length. -/
def extRow (lvl : Level) (d : Dir) (arm : Nat → Nat → Nat → D Unit) : D Unit := do
  let o ← getPos
  let _ ← typeField
  extendedWith lvl d (arm o)

/-- The arm of what a sub-type selects, as a row runs it. -/
def selArm (d : Dir) (k : Option IeKind) (ieStart sub lenBits : Nat) : D Unit := ieArm topCall d sub lenBits ieStart k

/-- The level of a row and what it takes its sub-type to select, `none` for Unknown; no other instruction has one. -/
def rowSel : Instr → Option (Level × Option IeKind)
  | .channelMeasurement => some (.one, some (.l1 .channelMeasurement))
  | .stcZone => some (.one, some (.l1 .stcZone))
  | .aas => some (.one, some (.l1 .aas))
  | .dataLocationOtherBs => some (.one, some (.l1 .dataLocationOtherBs))
  | .cidSwitch => some (.one, some (.l1 .cidSwitch))
  | .mimoBasic => some (.one, some (.l1 .mimoBasic))
  | .mimoEnhanced => some (.one, some (.l1 .mimoEnhanced))
  | .harqMapPointer => some (.one, some (.l1 .harqMapPointer))
  | .phyModifier => some (.one, some (.l1 .phyModifier))
  | .broadcastControlPointer => some (.one, some (.l1 .broadcastControlPointer))
  | .puscBurstOtherSegment => some (.one, some (.l1 .puscBurstOtherSegment))
  | .interferenceNoiseLevel => some (.one, some (.l1 .interferenceNoiseLevel))
  | .unknownL1Code9 | .unknownL1Code12 | .unknownL1Code13 | .unknownL1Code14 => some (.one, none)
  | .mbsMap => some (.two, some (.l2 .mbsMap))
  | .handoverVariant1 | .handoverVariant2 | .handoverVariant3 => some (.two, some (.l2 .handoverVariant))
  | .skipIe => some (.two, some (.l2 .skipIe))
  | .harqMap => some (.two, some (.l2 .harqMap))
  | .harqAckBitmap => some (.two, some (.l2 .harqAckBitmap))
  | .enhancedDlMap => some (.two, some (.l2 .enhancedDlMap))
  | .aasSdma => some (.two, some (.l2 .aasSdma))
  | .unknownL2Code4 | .unknownL2Code5 | .unknownL2Code10 | .unknownL2Code11 | .unknownL2Code12 | .unknownL2Code13
  | .unknownL2Code15 => some (.two, none)
  | _ => none

/-- Every such row is the structure of its level with the arm of its kind. -/
theorem exec_of_rowSel (h : rowSel i = some (lvl, k)) (s : State) :
    exec i s = ieOp (extRow lvl s.dir (selArm s.dir k)) s := by
  cases i <;> cases h <;> rfl

theorem rowSel_of_level1 (h : i ∈ level1Rows) : ∃ k, rowSel i = some (.one, k) := by
  have hall : ∀ i ∈ level1Rows, (rowSel i).map Prod.fst = some .one := by decide
  obtain ⟨⟨_, k⟩, hsel, rfl⟩ := Option.map_eq_some_iff.mp (hall i h)
  exact ⟨k, hsel⟩

theorem rowSel_of_level2 (h : i ∈ level2Rows) : ∃ k, rowSel i = some (.two, k) := by
  have hall : ∀ i ∈ level2Rows, (rowSel i).map Prod.fst = some .two := by decide
  obtain ⟨⟨_, k⟩, hsel, rfl⟩ := Option.map_eq_some_iff.mp (hall i h)
  exact ⟨k, hsel⟩

/-- The arm that the map of a level chooses, as an escape runs it. -/
def escArm (lvl : Level) (d : Dir) (ieStart sub lenBits : Nat) : D Unit := mappedArm topCall lvl d sub lenBits ieStart

theorem exec_extended (s : State) : exec .extended s = ieOp (extRow .one .dl (escArm .one .dl)) s := rfl

theorem exec_extendedUplink (s : State) : exec .extendedUplink s = ieOp (extRow .one .ul (escArm .one .ul)) s := rfl

theorem exec_extended2 (s : State) : exec .extended2 s = ieOp (extRow .two s.dir (escArm .two s.dir)) s := rfl

/-! ### Where the header is there -/

/-- The width of the length field of a level in a direction, none where the parameter is not supplied (30_encoding.md R96,
R97, R99). -/
def lenBitsOf (c : Params) : Level → Dir → Option Nat
  | .one, .dl => some c.doc.l1LenBitsDl
  | .one, .ul => c.l1LenBitsUl
  | .two, _ => some c.doc.l2LenBits

theorem lenBitsOf_one (s : State) : lenBitsOf s.cfg .one s.dir = s.l1LenBits := by
  unfold State.l1LenBits
  cases s.dir <;> rfl

theorem lenBitsOf_two (s : State) (d : Dir) : lenBitsOf s.cfg .two d = some s.l2LenBits := rfl

/-- The width is the parameter's, or the operation is refused. -/
theorem lenWidth_eq (lvl : Level) (d : Dir) (s : State) :
    lenWidth lvl d s = needParam (lenBitsOf s.cfg lvl d) .l1LenBitsUl s := by
  cases lvl <;> cases d <;> rfl

/-- Where the header is there, the row is the bracket after it. -/
theorem extRow_headed {arm : Nat → Nat → Nat → D Unit} (hw : lenBitsOf s.cfg lvl d = some w) (hx : s.ExtLegal w)
    (hb : s.bodyStart w ≤ s.effBound) :
    extRow lvl d arm s.startIe = bracket (s.bodyBits w) (arm s.pos s.subtypeAt (s.bodyBits w)) (s.headed w) := by
  simp only [extRow, getPos_bind]
  rw [bind_of_ok (typeField_started hx hb)]
  refine extendedWith_headed (fun t ht => ?_) hx hb
  rw [lenWidth_eq, ht, hw, needParam_some]

theorem ieOp_extRow {arm : Nat → Nat → Nat → D Unit} (hw : lenBitsOf s.cfg lvl d = some w) (hx : s.ExtLegal w)
    (hb : s.bodyStart w ≤ s.effBound) :
    ieOp (extRow lvl d arm) s =
      callOp (bracket (s.bodyBits w) (arm s.pos s.subtypeAt (s.bodyBits w))) (s.headed w) := by
  rw [ieOp_eq hx.legal, callOp_congr (extRow_headed hw hx hb)]

/-! ### What a row that ended ok read -/

theorem readField_eq_ok {id : FieldId} {v : Nat} (h : readField id w s = .ok v t) :
    w ≤ s.cfg.doc.readMaxBits ∧ s.pos + w ≤ s.effBound ∧ v = memRead s.mem s.pos w ∧
      t = (s.setPos (s.pos + w)).emit (s.fieldRec id s.pos w) := by
  simp only [readField, getPos_bind] at h
  obtain ⟨v', u, hread, hemit⟩ := bind_eq_ok h
  obtain ⟨hw, hb, rfl, rfl⟩ := readBits_eq_ok hread
  cases hemit
  exact ⟨hw, hb, rfl, rfl⟩

theorem needParam_eq_ok {α : Type} {v : Option α} {p : OpenParam} {a : α} (h : needParam v p s = .ok a t) :
    v = some a ∧ t = s := by
  cases v <;> cases h
  exact ⟨rfl, rfl⟩

theorem typeField_eq_ok {v : Nat} (h : typeField s = .ok v t) :
    s.cfg.doc.l0TypeBits ≤ s.cfg.doc.readMaxBits ∧ s.subAt ≤ s.effBound ∧
      v = memRead s.mem s.pos s.cfg.doc.l0TypeBits ∧
      t = (s.setPos s.subAt).emit (s.fieldRec .l0Type s.pos s.cfg.doc.l0TypeBits) := by
  simp only [typeField, getS_bind] at h
  exact readField_eq_ok h

theorem lenField_eq_ok {n : Nat} (h : lenField lvl d s = .ok n t) :
    ∃ w, lenBitsOf s.cfg lvl d = some w ∧ w ≤ s.cfg.doc.readMaxBits ∧ s.pos + w ≤ s.effBound ∧
      t = (s.setPos (s.pos + w)).emit (s.fieldRec .length s.pos w) := by
  obtain ⟨w, u, hwidth, hrest⟩ := bind_eq_ok h
  rw [lenWidth_eq] at hwidth
  obtain ⟨hw, rfl⟩ := needParam_eq_ok hwidth
  obtain ⟨_, _, hfield, hval⟩ := bind_eq_ok hrest
  obtain ⟨hmax, hb, -, rfl⟩ := readField_eq_ok hfield
  cases hval
  exact ⟨w, hw, hmax, hb, rfl⟩

/-- A row that ended ok had its header there. -/
theorem extRow_eq_ok {arm : Nat → Nat → Nat → D Unit} (hl : s.inp.cqichIdWidth.toNat ≤ 9)
    (h : extRow lvl d arm s.startIe = .ok () u) :
    ∃ w, lenBitsOf s.cfg lvl d = some w ∧ s.ExtLegal w ∧ s.bodyStart w ≤ s.effBound := by
  simp only [extRow, getPos_bind] at h
  obtain ⟨v, s1, htype, hrest⟩ := bind_eq_ok h
  obtain ⟨hmax0, -, -, rfl⟩ := typeField_eq_ok htype
  simp only [extendedWith, setSeq_bind, getS_bind] at hrest
  obtain ⟨sub, s2, hsub, hrest⟩ := bind_eq_ok hrest
  obtain ⟨hmax1, -, -, rfl⟩ := readField_eq_ok hsub
  obtain ⟨n, s3, hlen, -⟩ := bind_eq_ok hrest
  obtain ⟨w, hw, hmax2, hb, -⟩ := lenField_eq_ok hlen
  exact ⟨w, hw, ⟨hl, hmax0, hmax1, hmax2⟩, hb⟩

/-- A row that is DONE had its header there, and its bracket ended ok. -/
theorem ieOp_extRow_eq_done {arm : Nat → Nat → Nat → D Unit} (h : ieOp (extRow lvl d arm) s = .next t)
    (hd : t.state = .done) :
    ∃ w u, lenBitsOf s.cfg lvl d = some w ∧ s.bodyStart w ≤ s.effBound ∧
      bracket (s.bodyBits w) (arm s.pos s.subtypeAt (s.bodyBits w)) (s.headed w) = .ok () u ∧ t = u.finish := by
  have hl := ieOp_next_legal h
  rw [ieOp_eq hl] at h
  obtain ⟨u, hok, rfl⟩ := callOp_eq_done h hd
  obtain ⟨w, hw, hx, hb⟩ := extRow_eq_ok hl hok
  rw [extRow_headed hw hx hb] at hok
  exact ⟨w, u, hw, hb, hok, rfl⟩

end Sys2Proof.Machine
end

section
/-! PROOFS. How IE and MSG operations end (42_ie_dispatch.md R160, R173, R218; 60_exceptions.md R281, R284): DONE or STOPPED
where the cursor stands, with the limits balanced, and an Extended or Extended-2 IE on its declared end. -/

namespace Sys2Proof.Machine

variable {i : Instr} {s t u : State} {d : Dir} {lvl : Level} {R : State → State → Prop} {E : State → Stop → State → Prop}

/-! ### Of what IE and MSG operations are made -/

/-- The arm of a row, and that of an escape, are made of the atoms. -/
theorem Closed.selArm' {W : (α : Type) → D α → Prop} (h : Closed W) (d : Dir) (k : Option IeKind) (o sub n : Nat) :
    W _ (selArm d k o sub n) :=
  h.ieArm' h.topCall' d sub n o k

theorem Closed.escArm' {W : (α : Type) → D α → Prop} (h : Closed W) (lvl : Level) (d : Dir) (o sub n : Nat) :
    W _ (escArm lvl d o sub n) :=
  h.mappedArm' h.topCall' lvl d sub n o

theorem Closed.extRow' {W : (α : Type) → D α → Prop} (h : Closed W) (lvl : Level) (d : Dir)
    {arm : Nat → Nat → Nat → D Unit} (ha : ∀ o sub n, W _ (arm o sub n)) : W _ (extRow lvl d arm) :=
  h.bind' h.getPos' fun o => h.bind' h.typeField' fun _ => h.extendedWith' lvl d (ha o)

/-- The body of an IE operation is made of the atoms and of what sets the route of a command. -/
def IsIeBody (x : D Unit) : Prop :=
  ∀ W : (α : Type) → D α → Prop, ClosedAll W → (∀ d f, W _ (modS fun s => s.setRoute d f)) → W _ x

theorem IsIeBody.of_closed {x : D Unit} (h : ∀ W, Closed W → W _ x) : IsIeBody x := fun W hW _ => h W hW.toClosed

theorem isIeBody_command (d : Dir) (f : Family) :
    IsIeBody (do checkCompact f; modS (fun s => s.setRoute d f); decodeIe d f) := fun _ hW hr =>
  hW.bind' (hW.checkCompact' f) fun _ => hW.bind' (hr d f) fun _ => hW.decodeIe' d f

/-- Every IE operation is such a body inside the operation of R160. -/
theorem exec_ie_eq (hi : isLegacyIe i = true ∨ isCompactIe i = true) (s : State) :
    ∃ x, exec i s = ieOp x s ∧ IsIeBody x := by
  cases i
  case channelMeasurement | stcZone | aas | dataLocationOtherBs | cidSwitch | mimoBasic | mimoEnhanced |
      harqMapPointer | phyModifier | broadcastControlPointer | puscBurstOtherSegment | interferenceNoiseLevel |
      unknownL1Code9 | unknownL1Code12 | unknownL1Code13 | unknownL1Code14 | mbsMap | handoverVariant1 |
      handoverVariant2 | handoverVariant3 | skipIe | harqMap | harqAckBitmap | enhancedDlMap | aasSdma |
      unknownL2Code4 | unknownL2Code5 | unknownL2Code10 | unknownL2Code11 | unknownL2Code12 | unknownL2Code13 |
      unknownL2Code15 =>
    exact ⟨_, exec_of_rowSel rfl s, .of_closed fun _ h => h.extRow' _ _ (h.selArm' _ _)⟩
  case extended | extendedUplink | extended2 =>
    exact ⟨extRow _ _ (escArm _ _), rfl, .of_closed fun _ h => h.extRow' _ _ (h.escArm' _ _)⟩
  case ieDlLegacy | ieUlLegacy | ieDlCompact | ieUlCompact => exact ⟨_, rfl, isIeBody_command _ _⟩
  case regType0 | regType1 | regType2 | regType3 | regType4 | regType5 | regType6 | regType7 | regType8 | regType9 |
      regType10 | gapPapr =>
    exact ⟨_, rfl, .of_closed fun _ h => h.regularRow' _ _⟩
  case l0Unassigned11 | l0Unassigned12 => exact ⟨_, rfl, .of_closed fun _ h => h.unassignedRow' _ _⟩
  case sbChase | sbIrCtc | sbIrCc | sbMimoChase | sbMimoIr | sbMimoIrCc | sbMimoStc | unknownSbMode7 |
      unknownSbMode8 | unknownSbMode9 | unknownSbMode10 | unknownSbMode11 | unknownSbMode12 | unknownSbMode13 |
      unknownSbMode14 | unknownSbMode15 =>
    exact ⟨_, rfl, .of_closed fun _ h => h.sbModeRow' _ _⟩
  case compactIe =>
    exact ⟨_, rfl, fun _ h _ => h.bind' (h.checkCompact' _) fun _ => h.decodeCompactIe' h.topCall' _⟩
  all_goals rcases hi with hi | hi <;> cases hi

theorem exec_of_msgKindOf {k : MsgKind} (h : msgKindOf i = some k) (s : State) : exec i s = msgCommand k s := by
  cases i <;> cases h <;> rfl

/-- An operation that answers a next state is of one of four groups. -/
theorem exec_next_kind (h : exec i s = .next t) :
    isUnitOp i = true ∨ (∃ p, i = .init p) ∨ (isLegacyIe i = true ∨ isCompactIe i = true) ∨
      ∃ k, msgKindOf i = some k := by
  cases exec_shape h with
  | unit kind => exact .inl kind
  | init p kind => exact .inr (.inl ⟨p, kind⟩)
  | ie kind => exact .inr (.inr (.inl (.inl kind)))
  | compact kind => exact .inr (.inr (.inl (.inr kind)))
  | msg k kind => exact .inr (.inr (.inr ⟨k, kind⟩))

/-! ### DONE or STOPPED -/

/-- Nothing between the start and the end of an operation writes ERR or ERR_POS, and an error is raised where the cursor
stands. -/
def KeepsErr (s t : State) : Prop := t.err = s.err ∧ t.errPos = s.errPos

def RaisedHere (e : Stop) (t : State) : Prop := ∀ k p, e = .raised k p → p = t.pos

theorem keepsErr_chainRule : ChainRule KeepsErr where
  refl _ := ⟨rfl, rfl⟩
  trans h k := ⟨k.1.trans h.1, k.2.trans h.2⟩
  move _ _ _ := ⟨rfl, rfl⟩
  field _ _ _ _ _ _ _ := ⟨rfl, rfl⟩
  emitted _ _ _ _ _ _ _ _ _ := ⟨rfl, rfl⟩
  push _ _ _ _ := ⟨rfl, rfl⟩
  pop _ _ _ _ := ⟨rfl, rfl⟩
  warn _ _ := ⟨rfl, rfl⟩
  msgStart _ := ⟨rfl, rfl⟩
  unseen _ _ _ _ _ _ _ := ⟨rfl, rfl⟩

theorem keepsErr_moves : MovesAll KeepsErr fun _ e t => RaisedHere e t :=
  { keepsErr_chainRule.movesAll with
    stops := fun _ h => h
    raised := fun _ _ _ _ h => by cases h; rfl
    refused := fun _ _ => nofun
    faulted := fun _ _ => nofun }

/-- What an operation leaves in the status registers (60_exceptions.md R281, R284). -/
def EndsDoneOrStopped (t : State) : Prop :=
  t.consumed = t.pos - t.start ∧
    (t.state = .done ∧ t.err = 0 ∧ t.errPos = 0 ∨
      t.state = .stopped ∧ (t.err = 1 ∨ t.err = 2 ∨ t.err = 4) ∧ t.errPos = t.pos)

theorem errCode_cases (e : ErrKind) : errCode e = 1 ∨ errCode e = 2 ∨ errCode e = 4 := by
  cases e <;> simp [errCode]

/-- An operation that starts with ERR and ERR_POS 0. -/
theorem callOp_endsDoneOrStopped {x : D Unit} {b : State} (hx : Within KeepsErr (fun _ e t => RaisedHere e t) x)
    (herr : b.err = 0) (hpos : b.errPos = 0) (h : callOp x b = .next t) : EndsDoneOrStopped t := by
  have hb := hx b
  rcases callOp_eq_next h with ⟨u, hok, rfl⟩ | ⟨e, p, u, herror, rfl⟩
  · rw [hok] at hb
    exact ⟨rfl, .inl ⟨rfl, hb.1.trans herr, hb.2.trans hpos⟩⟩
  · rw [herror] at hb
    exact ⟨rfl, .inr ⟨rfl, errCode_cases e, hb e p rfl⟩⟩

/-- Settles O53: an IE operation starts with ERR 0 by R160, a message by INIT. -/
theorem callsEndDoneOrStopped : Obligations.CallsEndDoneOrStopped := by
  intro i s t hunit hinit h
  rcases exec_next_kind h with hu | ⟨p, rfl⟩ | hie | ⟨k, hmsg⟩
  · simp [hunit] at hu
  · exact absurd rfl (hinit p)
  · obtain ⟨x, hx, hbody⟩ := exec_ie_eq hie s
    rw [hx] at h
    rw [ieOp_eq (ieOp_next_legal h)] at h
    exact callOp_endsDoneOrStopped (hbody _ keepsErr_moves.closedAll fun _ _ _ => ⟨rfl, rfl⟩) rfl rfl h
  · rw [exec_of_msgKindOf hmsg] at h
    obtain ⟨-, hseg⟩ := msgCommand_entered h
    exact callOp_endsDoneOrStopped (keepsErr_moves.segment' k) rfl rfl hseg

/-! ### Limits balance -/

/-- Settles O55: every sub-step is balanced, and a message begins with no limit. -/
theorem limitsBalance : Obligations.LimitsBalance := by
  intro i s t h hd
  refine ⟨fun hie => ?_, fun hmsg => ?_⟩
  · obtain ⟨x, hx, hbody⟩ := exec_ie_eq hie s
    rw [hx] at h
    rw [ieOp_eq (ieOp_next_legal h)] at h
    obtain ⟨u, hok, rfl⟩ := callOp_eq_done h hd
    have hlim := hbody _ balanced_closed (fun _ _ => balanced_mods _ fun _ => rfl) _ _ _ hok
    exact hlim
  · obtain ⟨k, hk⟩ := Option.isSome_iff_exists.mp hmsg
    rw [exec_of_msgKindOf hk] at h
    obtain ⟨-, hseg⟩ := msgCommand_entered h
    obtain ⟨u, hok, rfl⟩ := callOp_eq_done hseg hd
    exact balanced_segment k _ _ _ hok

/-! ### The declared end -/

/-- What a bracket that ended ok did: room and the parent's limit were there, the arm ended ok, and so did Close. -/
theorem bracket_eq_ok {n : Nat} {arm : D Unit} (h : bracket n arm s = .ok () u) :
    s.limstk.length < s.cfg.doc.limDepth ∧ (∀ b ∈ s.limstk.head?, s.pos + n ≤ b) ∧
      ∃ v, arm (s.setLimstk ((s.pos + n) :: s.limstk)) = .ok () v ∧ closeIe v = .ok () u := by
  obtain ⟨_, v, hpush, hrest⟩ := bind_eq_ok h
  obtain ⟨_, v', harm, hclose⟩ := bind_eq_ok hrest
  rcases pushLimit_cases n s with ⟨e, hroom, hin⟩ | e | e <;> rw [e] at hpush <;> cases hpush
  exact ⟨hroom, hin, v', harm, hclose⟩

/-- Close that ended ok, from before the declared end, stands on it. -/
theorem closeIe_eq_ok {b : Nat} {l : List Nat} (h : closeIe s = .ok () u) (hl : s.limstk = b :: l) (hp : s.pos ≤ b) :
    u.pos = b ∧ u.limstk = l := by
  have hd : s.drem = b - s.pos := by rw [State.drem, hl]
  simp only [closeIe, getS_bind, hd] at h
  obtain ⟨_, v, hrest, hpop⟩ := bind_eq_ok h
  have hv : v.pos = b ∧ v.limstk = b :: l := by
    unfold closeRest at hrest
    split at hrest
    · cases hrest
      exact ⟨by omega, hl⟩
    · obtain ⟨_, v', hmove, hwarn⟩ := bind_eq_ok (f := fun _ => warnRec .lengthConsistency s.pos (b - s.pos)) hrest
      obtain ⟨-, rfl⟩ := moveBits_eq_ok hmove
      cases hwarn
      exact ⟨Nat.add_sub_cancel' hp, hl⟩
  rw [popLimit_ok hv.2] at hpop
  cases hpop
  exact ⟨hv.1, rfl⟩

/-- A bracket that ended ok, from a cursor in order, stands on the declared end with the limits as they were: its arm, made
of the atoms, keeps the cursor within the limit and the limits balanced. -/
theorem bracket_ends {n : Nat} {arm : D Unit} (ha : ∀ W, Closed W → W _ arm) (hc : s.CursorOk)
    (h : bracket n arm s = .ok () u) : u.pos = s.pos + n ∧ u.limstk = s.limstk := by
  obtain ⟨hroom, hin, v, harm, hclose⟩ := bracket_eq_ok h
  have hlim : v.limstk = (s.pos + n) :: s.limstk := ha _ balanced_closed.toClosed _ _ _ harm
  have hcursor := ha _ cursorOk_chainRule.movesAll.closed (s.setLimstk ((s.pos + n) :: s.limstk))
  rw [harm] at hcursor
  have hpos : v.pos ≤ s.pos + n := (hcursor (hc.push hroom hin)).pos_le_limits _ (by simp [hlim])
  exact closeIe_eq_ok hclose hlim hpos

/-- The header leaves the cursor in order. -/
theorem headed_cursorOk {w : Nat} (hc : s.CursorOk) (hb : s.bodyStart w ≤ s.effBound) : (s.headed w).CursorOk := by
  have hpos : s.pos + (s.bodyStart w - s.pos) = s.bodyStart w := by
    unfold State.bodyStart State.lenAt State.subAt
    omega
  have hmoved := hc.move (w := s.bodyStart w - s.pos) (by omega)
  rw [hpos] at hmoved
  exact hmoved.of_regs rfl

/-- A row whose arm is made of the atoms. -/
theorem extRow_ends_on_declared_end {arm : Nat → Nat → Nat → D Unit} (ha : ∀ W, Closed W → ∀ o sub n, W _ (arm o sub n))
    (hc : s.CursorOk) (h : ieOp (extRow lvl d arm) s = .next t) (hd : t.state = .done) :
    ∃ w, lenBitsOf s.cfg lvl d = some w ∧ t.pos = s.bodyEnd w ∧ t.limstk = s.limstk := by
  obtain ⟨w, u, hw, hb, hbracket, rfl⟩ := ieOp_extRow_eq_done h hd
  obtain ⟨hpos, hlim⟩ := bracket_ends (fun W hW => ha W hW _ _ _) (headed_cursorOk hc hb) hbracket
  exact ⟨w, hw, hpos, hlim⟩

/-- Settles O54: the rows and the escapes are one shape. -/
theorem declaredLengthIsConsumed : Obligations.DeclaredLengthIsConsumed := by
  intro i s t hc h hd
  have row : ∀ {lvl k}, rowSel i = some (lvl, k) →
      ∃ w, lenBitsOf s.cfg lvl s.dir = some w ∧ t.pos = s.bodyEnd w ∧ t.limstk = s.limstk := fun {_ k} hsel =>
    extRow_ends_on_declared_end (fun _ hW => hW.selArm' s.dir k) hc (exec_of_rowSel hsel s ▸ h) hd
  have escape : ∀ {lvl d}, exec i s = ieOp (extRow lvl d (escArm lvl d)) s →
      ∃ w, lenBitsOf s.cfg lvl d = some w ∧ t.pos = s.bodyEnd w ∧ t.limstk = s.limstk := fun {lvl d} hx =>
    extRow_ends_on_declared_end (fun _ hW => hW.escArm' lvl d) hc (hx ▸ h) hd
  refine ⟨fun hi => ?_, fun hi => ?_, fun hi => ?_, fun hi => ?_⟩
  · obtain ⟨w, hw, hends⟩ : ∃ w, lenBitsOf s.cfg .two s.dir = some w ∧ t.pos = s.bodyEnd w ∧ t.limstk = s.limstk := by
      rcases List.mem_cons.mp hi with rfl | hi
      · exact escape (exec_extended2 s)
      · obtain ⟨k, hsel⟩ := rowSel_of_level2 hi
        exact row hsel
    cases (lenBitsOf_two s s.dir).symm.trans hw
    exact hends
  · obtain ⟨k, hsel⟩ := rowSel_of_level1 hi
    obtain ⟨w, hw, hends⟩ := row hsel
    exact ⟨w, lenBitsOf_one s ▸ hw, hends⟩
  · subst hi
    obtain ⟨w, hw, hends⟩ := escape (exec_extended s)
    cases hw
    exact hends
  · subst hi
    obtain ⟨w, hw, hends⟩ := escape (exec_extendedUplink s)
    exact ⟨w, hw, hends⟩

end Sys2Proof.Machine
end

section
/-! PROOFS. The escapes and the kind their sub-type selects (42_ie_dispatch.md R170, R171). -/

namespace Sys2Proof.Machine

variable {α β : Type} {i : Instr} {s t u : State} {d : Dir} {lvl : Level} {k : Option IeKind}

/-! ### Rows that run alike -/

/-- Binds agree where their second parts do on what the first part answered. -/
theorem bind_congr_ok {x : D α} {f g : α → D β} (h : ∀ a t, x s = .ok a t → f a t = g a t) :
    (x >>= f) s = (x >>= g) s := by
  rw [bind_run, bind_run]
  cases hx : x s with
  | ok a t => exact h a t hx
  | error e t => rfl

/-- A bracket is its arm's, run with the limit pushed. -/
theorem bracket_congr {n : Nat} {x y : D Unit} (h : ∀ t, t.cfg = s.cfg → x t = y t) : bracket n x s = bracket n y s := by
  refine bind_congr_ok fun _ t hpush => ?_
  rcases pushLimit_cases n s with ⟨e, -, -⟩ | e | e <;> rw [e] at hpush <;> cases hpush
  simp only [bind_run, h (s.setLimstk ((s.pos + n) :: s.limstk)) rfl]

/-- A row depends on its arm only for the sub-type at POS and under the configuration that is there. -/
theorem extRow_congr {a b : Nat → Nat → Nat → D Unit}
    (h : ∀ n t, t.cfg = s.cfg → a s.pos s.subtypeAt n t = b s.pos s.subtypeAt n t) :
    extRow lvl d a s.startIe = extRow lvl d b s.startIe := by
  simp only [extRow, getPos_bind]
  refine bind_congr_ok fun v s1 htype => ?_
  obtain ⟨-, -, -, rfl⟩ := typeField_eq_ok htype
  simp only [extendedWith, setSeq_bind, getS_bind]
  refine bind_congr_ok fun sub s2 hsub => ?_
  obtain ⟨-, -, rfl, rfl⟩ := readField_eq_ok hsub
  refine bind_congr_ok fun n s3 hlen => ?_
  obtain ⟨w, -, -, -, rfl⟩ := lenField_eq_ok hlen
  exact bracket_congr fun t ht => h n t ht

/-! ### What a map selects -/

/-- The kind that the map of a level and a direction gives a sub-type; none where the map is not supplied. -/
def kindIn (c : Params) : Level → Dir → Nat → Option (Option IeKind)
  | .one, .dl, sub => some ((c.maps.l1Dl.lookup sub).map .l1)
  | .one, .ul, sub => c.maps.l1Ul.map fun m => (m.lookup sub).map .l1
  | .two, .dl, sub => some ((c.maps.l2Dl.lookup sub).map .l2)
  | .two, .ul, sub => c.maps.l2Ul.map fun m => (m.lookup sub).map .l2

theorem kindOf_run {sub : Nat} (h : kindIn s.cfg lvl d sub = some k) : kindOf lvl d sub s = .ok k s := by
  cases lvl <;> cases d <;> simp only [kindIn, Option.map_eq_some_iff, Option.some.injEq] at h
  · rw [← h]; rfl
  · obtain ⟨m, hm, rfl⟩ := h
    simp only [kindOf, getS_bind, hm]
    rfl
  · rw [← h]; rfl
  · obtain ⟨m, hm, rfl⟩ := h
    simp only [kindOf, getS_bind, hm]
    rfl

/-- An escape runs the arm of the kind its sub-type selects. -/
theorem ieOp_escape (h : kindIn s.cfg lvl d s.subtypeAt = some k) :
    ieOp (extRow lvl d (escArm lvl d)) s = ieOp (extRow lvl d (selArm d k)) s := by
  refine ieOp_congr (extRow_congr fun n t ht => ?_)
  have hkind : kindOf lvl d s.subtypeAt t = .ok k t := kindOf_run (ht ▸ h)
  exact bind_of_ok hkind

/-- The row of a Level-1 sub-type: that of its kind, and for an unknown one a row of its own or the escape's. -/
theorem rowSel_l1Row (sub : Nat) (k : Option L1Kind) :
    rowSel (l1Row sub k) = some (.one, k.map .l1) ∨ k = none ∧ l1Row sub k = .extended := by
  cases k with
  | some k => cases k <;> exact .inl rfl
  | none =>
    simp only [l1Row]
    split
    exacts [.inl rfl, .inl rfl, .inl rfl, .inl rfl, .inr ⟨trivial, rfl⟩]

theorem rowSel_l2Row (sub : Nat) (k : Option L2Kind) :
    rowSel (l2Row sub k) = some (.two, k.map .l2) ∨ k = none ∧ l2Row sub k = .extended2 := by
  cases k with
  | some k =>
    cases k
    case handoverVariant =>
      simp only [l2Row]
      split <;> exact .inl rfl
    all_goals exact .inl rfl
  | none =>
    simp only [l2Row]
    split
    exacts [.inl rfl, .inl rfl, .inl rfl, .inl rfl, .inl rfl, .inl rfl, .inl rfl, .inr ⟨trivial, rfl⟩]

/-- A downlink Extended escape. -/
theorem exec_extended_eq_l1Row (hd : s.dir = .dl) :
    exec .extended s = exec (l1Row s.subtypeAt (s.cfg.maps.l1Dl.lookup s.subtypeAt)) s := by
  rcases rowSel_l1Row s.subtypeAt (s.cfg.maps.l1Dl.lookup s.subtypeAt) with hsel | ⟨-, hrow⟩
  · rw [exec_of_rowSel hsel, exec_extended, hd]
    exact ieOp_escape rfl
  · rw [hrow]

/-- An uplink Extended escape whose sub-type is known. -/
theorem exec_extendedUplink_eq_l1Row {m : List (Nat × L1Kind)} {k : L1Kind} (hd : s.dir = .ul)
    (hm : s.cfg.maps.l1Ul = some m) (hk : m.lookup s.subtypeAt = some k) :
    exec .extendedUplink s = exec (l1Row s.subtypeAt (some k)) s := by
  rcases rowSel_l1Row s.subtypeAt (some k) with hsel | ⟨hnone, -⟩
  · rw [exec_of_rowSel hsel, exec_extendedUplink, hd]
    exact ieOp_escape (by simp [kindIn, hm, hk])
  · cases hnone

/-- An Extended-2 escape, with a map for the direction. -/
theorem exec_extended2_eq_l2Row {k : Option L2Kind} (hk : kindIn s.cfg .two s.dir s.subtypeAt = some (k.map .l2)) :
    exec .extended2 s = exec (l2Row s.subtypeAt k) s := by
  rcases rowSel_l2Row s.subtypeAt k with hsel | ⟨-, hrow⟩
  · rw [exec_of_rowSel hsel, exec_extended2]
    exact ieOp_escape hk
  · rw [hrow]

/-- Settles O32: an escape and the row of its kind differ only in how the arm is found. -/
theorem escapesRunTheirKind : Obligations.EscapesRunTheirKind := by
  refine fun s => ⟨fun hd => ⟨exec_extended_eq_l1Row hd, exec_extended2_eq_l2Row ?_⟩,
    fun hd => ⟨fun m k hm hk => exec_extendedUplink_eq_l1Row hd hm hk, fun m hm => exec_extended2_eq_l2Row ?_⟩⟩
  · rw [hd]; rfl
  · simp [hd, kindIn, hm]

end Sys2Proof.Machine
end

section
/-! PROOFS. Extended and Extended-2 IEs whose body has no hook (42_ie_dispatch.md R172, R174, R181 to R183, R186, R189): every
kind but HARQ_MAP passes over its body as one record and then does one thing more, or nothing. -/

namespace Sys2Proof.Machine

variable {α β : Type} {i : Instr} {s t u : State} {d : Dir} {lvl : Level} {k : Option IeKind} {w n : Nat}
  {call : HookCall → D Unit}

/-! ### What a kind does with a body that has no hook -/

/-- The hook that is the body of a kind. Unknown, the passthrough kinds and CID_SWITCH are passed over, HARQ_MAP holds a
container. -/
def bodyHook : Option IeKind → Option HookId
  | none => none
  | some (.l1 .cidSwitch) => none
  | some (.l1 .mimoBasic) => none
  | some (.l1 .mimoEnhanced) => none
  | some (.l1 k) => some (.l1 k)
  | some (.l2 .handoverVariant) => none
  | some (.l2 .harqMap) => none
  | some (.l2 k) => some (.l2 k)

/-- The record of a body passed over. -/
def skippedId : Option IeKind → FieldId
  | none => .reservedSkipped
  | some (.l1 .mimoBasic) => .unimplementedSkipped
  | some (.l1 .mimoEnhanced) => .unimplementedSkipped
  | some (.l1 k) => .body (.l1 k)
  | some (.l2 .handoverVariant) => .unimplementedSkipped
  | some (.l2 k) => .body (.l2 k)

/-- What follows it: the warning of R182, the free values of STC_ZONE (R186), the flip of CID_SWITCH (R189). -/
def skippedEffect (ieStart sub : Nat) : Option IeKind → State → State
  | none, s => s.addWarn { kind := .unknownVariant, off := ieStart, info := sub }
  | some (.l1 .stcZone), s =>
    (s.setDraws (s.draws + 2)).setSession
      { s.session with
        stcZoneMatrix := Config.freeNat s.draws, stcZoneDedicatedPilots := Config.freeNat (s.draws + 1) }
  | some (.l1 .cidSwitch), s => s.setSession { s.session with incCid := !s.session.incCid }
  | some _, s => s

@[simp] theorem skippedEffect_pos (o sub : Nat) (k : Option IeKind) (s : State) :
    (skippedEffect o sub k s).pos = s.pos := by
  unfold skippedEffect
  split <;> rfl

@[simp] theorem skippedEffect_limstk (o sub : Nat) (k : Option IeKind) (s : State) :
    (skippedEffect o sub k s).limstk = s.limstk := by
  unfold skippedEffect
  split <;> rfl

/-- It does not see the end of the operation. -/
theorem skippedEffect_finish (o sub : Nat) (k : Option IeKind) (s : State) (l : List Nat) :
    ((skippedEffect o sub k s).setLimstk l).finish = skippedEffect o sub k (s.setLimstk l).finish := by
  unfold skippedEffect
  split <;> rfl

theorem skippedEffect_state (o sub : Nat) (k : Option IeKind) (s : State) :
    (skippedEffect o sub k s).state = s.state := by
  unfold skippedEffect
  split <;> rfl

/-! ### The arm of such a kind -/

/-- A body whose hook is not supplied passes over what is left of the region, and the rule goes on with no values. -/
theorem invokeHook_opaque {id : HookId} {sb : Bool} {env : Env} {f : HookRets → D β}
    (hn : s.cfg.hooks.lookup id = none) (hd : s.drem = n) :
    (invokeHook call id d sb (opaqueBody id) env >>= f) s = (skipField (.body id) n >>= fun _ => f none) s := by
  have hbody : opaqueBody id s = skipField (.body id) n s := by rw [opaqueBody, getS_bind, hd]
  have hrun : invokeHook call id d sb (opaqueBody id) env s = (skipField (.body id) n >>= fun _ => pure none) s := by
    simp only [invokeHook, getS_bind, hn]
    rw [bind_run, hbody, ← bind_run]
  rw [bind_run, hrun, ← bind_run, bind_assoc]
  rfl

/-- A kind that only passes over its body. -/
theorem plainBody_skips {id : HookId} (hn : s.cfg.hooks.lookup id = none) (hd : s.drem = n) :
    plainBody call d id s = (skipField (.body id) n >>= fun _ => pure ()) s :=
  invokeHook_opaque hn hd

theorem skipField_bind_pure (id : FieldId) (n : Nat) : (skipField id n >>= fun _ => pure ()) = skipField id n :=
  bind_pure_unit

/-- Every kind but HARQ_MAP, where its body has no hook. -/
theorem ieArm_skips (hk : k ≠ some (.l2 .harqMap)) (hh : ∀ id ∈ bodyHook k, s.cfg.hooks.lookup id = none)
    (hd : s.drem = n) (sub o : Nat) :
    ∃ q, ieArm call d sub n o k s =
      (skipField (skippedId k) n >>= fun _ => modS (skippedEffect o sub k)) (s.setSeq q) := by
  have plain : ∀ id, bodyHook k = some id → (∀ s, skippedEffect o sub k s = s) → skippedId k = .body id →
      bodyArm (plainBody call d id) s =
        (skipField (skippedId k) n >>= fun _ => modS (skippedEffect o sub k)) (s.setSeq .ieBody) := by
    intro id hid heff hrec
    rw [show modS (skippedEffect o sub k) = pure () from funext fun t => by rw [modS_run, heff]; rfl, hrec]
    exact plainBody_skips (s := s.setSeq .ieBody) (hh id hid) hd
  match k with
  | none => exact ⟨.ieSkip, rfl⟩
  | some (.l1 k) =>
    cases k
    case mimoBasic | mimoEnhanced => exact ⟨.ieSkip, congrFun (skipField_bind_pure _ n).symm (s.setSeq .ieSkip)⟩
    case stcZone => exact ⟨.ieBody, invokeHook_opaque (s := s.setSeq .ieBody) (hh _ rfl) hd⟩
    case cidSwitch =>
      subst hd
      exact ⟨.ieBody, rfl⟩
    all_goals exact ⟨.ieBody, plain _ rfl (fun _ => rfl) rfl⟩
  | some (.l2 k) =>
    cases k
    case handoverVariant => exact ⟨.ieSkip, congrFun (skipField_bind_pure _ n).symm (s.setSeq .ieSkip)⟩
    case harqMap => exact absurd rfl hk
    all_goals exact ⟨.ieBody, plain _ rfl (fun _ => rfl) rfl⟩

theorem opened_drem (s : State) (w : Nat) : (s.opened w).drem = s.bodyBits w := by
  simp [State.drem, State.opened, State.headed, State.bodyEnd]

/-- An IE that fits, of such a kind: its header, one record of the body, the effect of its kind. -/
theorem ieOp_skipped (hw : lenBitsOf s.cfg lvl d = some w) (hf : s.ExtFits w) (hk : k ≠ some (.l2 .harqMap))
    (hh : ∀ id ∈ bodyHook k, s.cfg.hooks.lookup id = none) :
    ieOp (extRow lvl d (selArm d k)) s =
      .next
        (skippedEffect s.pos s.subtypeAt k
          (s.ieEnds (s.bodyEnd w) (s.extHeader w ++ [passRec (skippedId k) (s.bodyStart w) (s.bodyBits w)]))) := by
  obtain ⟨q, harm⟩ := ieArm_skips (call := topCall) (d := d) (s := s.opened w) hk hh (opened_drem s w) s.subtypeAt s.pos
  rw [bind_of_ok (hf.skipField (skippedId k) q), modS_run] at harm
  have hb : s.bodyStart w ≤ s.effBound := Nat.le_trans (Nat.le_add_right _ _) hf.inside
  rw [ieOp_extRow hw hf.toExtLegal hb, selArm,
    callOp_of_ok (hf.bracket harm (skippedEffect_limstk ..) (skippedEffect_pos ..)), skippedEffect_finish]
  simp [State.ieEnds, State.finish, State.setLimstk, State.emit, State.setPos, State.setSeq, State.opened, State.headed,
    List.append_assoc]

/-- A row of such a kind. -/
theorem exec_skipped (hi : rowSel i = some (lvl, k)) (hw : lenBitsOf s.cfg lvl s.dir = some w) (hf : s.ExtFits w)
    (hk : k ≠ some (.l2 .harqMap)) (hh : ∀ id ∈ bodyHook k, s.cfg.hooks.lookup id = none) :
    exec i s =
      .next
        (skippedEffect s.pos s.subtypeAt k
          (s.ieEnds (s.bodyEnd w) (s.extHeader w ++ [passRec (skippedId k) (s.bodyStart w) (s.bodyBits w)]))) := by
  rw [exec_of_rowSel hi, ieOp_skipped hw hf hk hh]

/-! ### The kinds -/

/-- A kind whose body is the given hook, and that writes no session field. -/
structure PlainKind (k : Option IeKind) (id : HookId) : Prop where
  hook : bodyHook k = some id
  record : skippedId k = .body id
  effect : ∀ o sub s, skippedEffect o sub k s = s
  arm : ∀ call d sub n o, ieArm call d sub n o k = bodyArm (plainBody call d id)

theorem PlainKind.ne_harqMap {id : HookId} (h : PlainKind k id) : k ≠ some (.l2 .harqMap) := by
  rintro rfl
  cases h.hook

theorem rowSel_of_plainRows1 {p : Instr × HookId} (h : p ∈ plainRows1) :
    ∃ k, rowSel p.1 = some (.one, k) ∧ PlainKind k p.2 := by
  simp only [plainRows1, List.mem_cons, List.not_mem_nil, or_false] at h
  rcases h with rfl | rfl | rfl | rfl | rfl | rfl | rfl | rfl <;>
    exact ⟨_, rfl, rfl, rfl, fun _ _ _ => rfl, fun _ _ _ _ _ => rfl⟩

theorem rowSel_of_plainRows2 {p : Instr × HookId} (h : p ∈ plainRows2) :
    ∃ k, rowSel p.1 = some (.two, k) ∧ PlainKind k p.2 := by
  simp only [plainRows2, List.mem_cons, List.not_mem_nil, or_false] at h
  rcases h with rfl | rfl | rfl | rfl | rfl <;> exact ⟨_, rfl, rfl, rfl, fun _ _ _ => rfl, fun _ _ _ _ _ => rfl⟩

/-- A row of a plain kind, its hook not supplied. -/
theorem exec_plain_default {id : HookId} (hi : rowSel i = some (lvl, k)) (hp : PlainKind k id)
    (hw : lenBitsOf s.cfg lvl s.dir = some w) (hf : s.ExtFits w) (hn : s.cfg.hooks.lookup id = none) :
    exec i s =
      .next (s.ieEnds (s.bodyEnd w) (s.extHeader w ++ [passRec (.body id) (s.bodyStart w) (s.bodyBits w)])) := by
  rw [exec_skipped hi hw hf hp.ne_harqMap (by rintro _ h; cases hp.hook.symm.trans h; exact hn), hp.effect, hp.record]

/-- Settles O25. -/
theorem plainKindsAreOneRecord : Obligations.PlainKindsAreOneRecord := by
  refine ⟨fun p hp s w hw hf hn => ?_, fun p hp s hf hn => ?_⟩
  · obtain ⟨k, hsel, hplain⟩ := rowSel_of_plainRows1 hp
    exact exec_plain_default hsel hplain ((lenBitsOf_one s).trans hw) hf hn
  · obtain ⟨k, hsel, hplain⟩ := rowSel_of_plainRows2 hp
    exact exec_plain_default hsel hplain (lenBitsOf_two s _) hf hn

/-- Settles O28: CID_SWITCH has no hook. -/
theorem cidSwitchFlipsIncCid : Obligations.CidSwitchFlipsIncCid := fun s _ hw hf =>
  exec_skipped (k := some (.l1 .cidSwitch)) rfl ((lenBitsOf_one s).trans hw) hf (by simp) nofun

theorem rowSel_of_passRows1 (h : i ∈ passRows1) :
    rowSel i = some (.one, some (.l1 .mimoBasic)) ∨ rowSel i = some (.one, some (.l1 .mimoEnhanced)) :=
  (by decide : ∀ i ∈ passRows1, rowSel i = some (.one, some (.l1 .mimoBasic)) ∨
    rowSel i = some (.one, some (.l1 .mimoEnhanced))) i h

theorem rowSel_of_passRows2 (h : i ∈ passRows2) : rowSel i = some (.two, some (.l2 .handoverVariant)) :=
  (by decide : ∀ i ∈ passRows2, rowSel i = some (.two, some (.l2 .handoverVariant))) i h

theorem rowSel_of_unknownRows1 (h : i ∈ unknownRows1) : rowSel i = some (.one, none) :=
  (by decide : ∀ i ∈ unknownRows1, rowSel i = some (.one, none)) i h

theorem rowSel_of_unknownRows2 (h : i ∈ unknownRows2) : rowSel i = some (.two, none) :=
  (by decide : ∀ i ∈ unknownRows2, rowSel i = some (.two, none)) i h

/-- Settles O29. -/
theorem unimplementedKindsAreSkipped : Obligations.UnimplementedKindsAreSkipped := by
  refine ⟨fun i hi s w hw hf => ?_, fun i hi s hf => ?_⟩
  · rcases rowSel_of_passRows1 hi with hsel | hsel <;>
      exact exec_skipped hsel ((lenBitsOf_one s).trans hw) hf (by simp) nofun
  · exact exec_skipped (rowSel_of_passRows2 hi) (lenBitsOf_two s _) hf (by simp) nofun

/-- Settles O30. -/
theorem unknownSubtypesAreSkipped : Obligations.UnknownSubtypesAreSkipped := by
  refine ⟨fun i hi s w hw hf => ?_, fun i hi s hf => ?_⟩
  · exact exec_skipped (rowSel_of_unknownRows1 hi) ((lenBitsOf_one s).trans hw) hf (by simp) nofun
  · exact exec_skipped (rowSel_of_unknownRows2 hi) (lenBitsOf_two s _) hf (by simp) nofun

/-- STC_ZONE without a hook: the two fields become free values. -/
theorem exec_stcZone_default (hw : s.l1LenBits = some w) (hf : s.ExtFits w)
    (hn : s.cfg.hooks.lookup (.l1 .stcZone) = none) :
    ∃ m p : Nat,
      exec .stcZone s =
        .next
          { s.ieEnds (s.bodyEnd w)
              (s.extHeader w ++ [passRec (.body (.l1 .stcZone)) (s.bodyStart w) (s.bodyBits w)]) with
            session := { s.session with stcZoneMatrix := m, stcZoneDedicatedPilots := p }
            draws := s.draws + 2 } :=
  ⟨_, _, exec_skipped (k := some (.l1 .stcZone)) rfl ((lenBitsOf_one s).trans hw) hf (by simp)
    (by rintro _ ⟨⟩; exact hn)⟩

/-! ### The escapes -/

/-- An escape that fits and selects such a kind ends ok on the declared end. -/
theorem ieOp_escape_completes (hkind : kindIn s.cfg lvl d s.subtypeAt = some k)
    (hw : lenBitsOf s.cfg lvl d = some w) (hf : s.ExtFits w) (hk : k ≠ some (.l2 .harqMap)) (hh : s.cfg.hooks = []) :
    ∃ t, ieOp (extRow lvl d (escArm lvl d)) s = .next t ∧ t.state = .done ∧ t.pos = s.bodyEnd w ∧
      t.limstk = s.limstk := by
  refine ⟨_, (ieOp_escape hkind).trans (ieOp_skipped hw hf hk fun _ _ => by simp [hh]), ?_, ?_, ?_⟩
  · rw [skippedEffect_state]; rfl
  · rw [skippedEffect_pos]; rfl
  · rw [skippedEffect_limstk]; rfl

/-- A sub-type of Level 1 selects no HARQ map. -/
theorem map_l1_ne_harqMap (k : Option L1Kind) : k.map IeKind.l1 ≠ some (.l2 .harqMap) := by
  cases k <;> simp

theorem map_l2_ne_harqMap {k : Option L2Kind} (h : k ≠ some .harqMap) : k.map IeKind.l2 ≠ some (.l2 .harqMap) := by
  intro hmap
  obtain ⟨k', rfl, hk'⟩ := Option.map_eq_some_iff.mp hmap
  cases hk'
  exact h rfl

/-- Settles O33. -/
theorem escapesComplete : Obligations.EscapesComplete := by
  refine fun s hh => ⟨fun hf => ?_, fun hf hd hk => ?_, fun w m hw hm hf => ?_⟩
  · exact ieOp_escape_completes rfl rfl hf (map_l1_ne_harqMap _) hh
  · refine ieOp_escape_completes ?_ (lenBitsOf_two s s.dir) hf (map_l2_ne_harqMap hk) hh
    rw [hd]
    rfl
  · exact ieOp_escape_completes (by rw [kindIn, hm]; rfl) hw hf (map_l1_ne_harqMap _) hh

/-! ### A declared length that does not fit -/

/-- Past the enclosing limit. -/
theorem ieOp_extRow_inconsistent {arm : Nat → Nat → Nat → D Unit} {b : Nat} {l : List Nat}
    (hw : lenBitsOf s.cfg lvl d = some w) (hx : s.ExtLegal w) (hb : s.bodyStart w ≤ s.effBound) (hl : s.limstk = b :: l)
    (hroom : l.length + 1 < s.cfg.doc.limDepth) (hpast : b < s.bodyEnd w) :
    ieOp (extRow lvl d arm) s = .next (s.ieStops .inconsistentLength (s.bodyStart w) (s.extHeader w)) := by
  rw [ieOp_extRow hw hx hb]
  exact callOp_of_raised (bind_of_error (pushLimit_inconsistent (s := s.headed w) hl hroom hpast))

/-- Past the buffer, with no enclosing limit: the body is not there. -/
theorem ieOp_extRow_truncated (hw : lenBitsOf s.cfg lvl d = some w) (hx : s.ExtLegal w)
    (hb : s.bodyStart w ≤ s.effBound) (hl : s.limstk = []) (hroom : 0 < s.cfg.doc.limDepth)
    (hpast : s.total < s.bodyEnd w) (hk : k ≠ some (.l2 .harqMap)) (hh : s.cfg.hooks = []) :
    ieOp (extRow lvl d (selArm d k)) s =
      .next
        { s.ieStops .truncated (s.bodyStart w) (s.extHeader w) with limstk := [s.bodyEnd w] } := by
  obtain ⟨q, harm⟩ := ieArm_skips (call := topCall) (d := d) (s := s.opened w) hk (fun _ _ => by
    simp [State.opened, State.headed, hh]) (opened_drem s w) s.subtypeAt s.pos
  have hshort : ((s.opened w).setSeq q).effBound < s.bodyStart w + s.bodyBits w :=
    Nat.lt_of_le_of_lt (effBound_le_total _) hpast
  rcases skipField_cases (skippedId k) (s.bodyBits w) ((s.opened w).setSeq q) with ⟨hfits, -⟩ | ⟨-, hskip⟩
  · exact absurd hfits (Nat.not_le.mpr hshort)
  · rw [bind_of_error hskip] at harm
    rw [ieOp_extRow hw hx hb, selArm, callOp_of_raised (bracket_error (s := s.headed w) (by simpa [State.headed, hl])
      (by simp [State.headed, hl]) harm)]
    simp [State.opened, State.headed, State.stop, State.ieStops, State.setSeq, hl]

/-- HARQ_MAP has one row. -/
theorem rowSel_harqMap (h : rowSel i = some (lvl, some (.l2 .harqMap))) : i = .harqMap := by
  cases i <;> cases h
  rfl

/-- Settles O31: the length is looked at before the kind. -/
theorem unfittingLengthStops : Obligations.UnfittingLengthStops := by
  intro s i w hx hb hi
  obtain ⟨lvl, k, hsel, hw⟩ : ∃ lvl k, rowSel i = some (lvl, k) ∧ lenBitsOf s.cfg lvl s.dir = some w := by
    rcases hi with ⟨hi, hw⟩ | ⟨hi, rfl⟩
    · obtain ⟨k, hsel⟩ := rowSel_of_level1 hi
      exact ⟨.one, k, hsel, (lenBitsOf_one s).trans hw⟩
    · obtain ⟨k, hsel⟩ := rowSel_of_level2 hi
      exact ⟨.two, k, hsel, lenBitsOf_two s _⟩
  rw [exec_of_rowSel hsel]
  refine ⟨fun b l hl hroom hpast => ieOp_extRow_inconsistent hw hx hb hl hroom hpast,
    fun hl hroom hpast hne hh => ieOp_extRow_truncated hw hx hb hl hroom hpast ?_ hh⟩
  rintro rfl
  exact hne (rowSel_harqMap hsel)

end Sys2Proof.Machine
end

section
/-! PROOFS. Extended and Extended-2 IEs whose body is a hook (42_ie_dispatch.md R173, R180, R186): where Close leaves the
cursor, and hooks that pass over bits. -/

namespace Sys2Proof.Machine

variable {i : Instr} {s t u : State} {d : Dir} {lvl : Level} {k : Option IeKind} {w : Nat} {call : HookCall → D Unit}
  {id : HookId} {sb : Bool} {env : Env} {h : HookDef}

/-! ### Close -/

/-- A state inside a region that ends at `b`, after its Close: on the end, with a warning of the bits that were left. -/
def State.closed (s : State) (b : Nat) (l : List Nat) : State :=
  if s.pos = b then s.setLimstk l
  else ((s.setPos b).addWarn { kind := .lengthConsistency, off := s.pos, info := b - s.pos }).setLimstk l

theorem State.closed_of_eq {b : Nat} {l : List Nat} (h : s.pos = b) : s.closed b l = s.setLimstk l := if_pos h

theorem State.closed_of_ne {b : Nat} {l : List Nat} (h : s.pos ≠ b) :
    s.closed b l =
      ((s.setPos b).addWarn { kind := .lengthConsistency, off := s.pos, info := b - s.pos }).setLimstk l := if_neg h

theorem closeIe_closed {b : Nat} {l : List Nat} (hl : s.limstk = b :: l) (hp : s.pos ≤ b) (hb : b ≤ s.effBound) :
    closeIe s = .ok () (s.closed b l) := by
  unfold State.closed
  split
  · exact closeIe_exact hl ‹_›
  · exact closeIe_rest hl (by omega) hb

theorem closed_frame (s : State) (b : Nat) (l : List Nat) :
    (s.closed b l).pos = b ∧ (s.closed b l).limstk = l ∧ (s.closed b l).session = s.session ∧
      (s.closed b l).out = s.out := by
  unfold State.closed
  split
  · exact ⟨‹_›, rfl, rfl, rfl⟩
  · exact ⟨rfl, rfl, rfl, rfl⟩

/-- The bound inside an IE that fits, as long as its limit is the innermost. -/
theorem State.ExtFits.bound (hf : s.ExtFits w) (hlen : u.len = s.len) (hl : u.limstk = s.bodyEnd w :: s.limstk) :
    u.effBound = s.bodyEnd w := by
  have hin := Nat.le_trans hf.inside (effBound_le_total s)
  have htotal : u.total = s.total := congrArg (8 * ·) hlen
  rw [State.effBound, hl, htotal]
  exact Nat.min_eq_right hin

/-- An IE that fits, its arm ending within the declared length. -/
theorem State.ExtFits.bracket_closed (hf : s.ExtFits w) {arm : D Unit} (ha : arm (s.opened w) = .ok () u)
    (hlen : u.len = s.len) (hl : u.limstk = s.bodyEnd w :: s.limstk) (hp : u.pos ≤ s.bodyEnd w) :
    Machine.bracket (s.bodyBits w) arm (s.headed w) = .ok () (u.closed (s.bodyEnd w) s.limstk) := by
  have hpush := pushLimit_ok (s := s.headed w) hf.room hf.within_top
  exact (bind_of_ok hpush).trans ((bind_of_ok (s := s.opened w) ha).trans
    (closeIe_closed hl hp (hf.bound hlen hl).ge))

/-- The row of such an IE. -/
theorem ieOp_extRow_closed {arm : Nat → Nat → Nat → D Unit} (hw : lenBitsOf s.cfg lvl d = some w) (hf : s.ExtFits w)
    (ha : arm s.pos s.subtypeAt (s.bodyBits w) (s.opened w) = .ok () u) (hlen : u.len = s.len)
    (hl : u.limstk = s.bodyEnd w :: s.limstk) (hp : u.pos ≤ s.bodyEnd w) :
    ieOp (extRow lvl d arm) s = .next (u.closed (s.bodyEnd w) s.limstk).finish := by
  have hb : s.bodyStart w ≤ s.effBound := Nat.le_trans (Nat.le_add_right _ _) hf.inside
  rw [ieOp_extRow hw hf.toExtLegal hb, callOp_of_ok (hf.bracket_closed ha hlen hl hp)]

/-! ### Hooks that pass over bits -/

theorem invokeHook_hook {dflt : D Unit} (hh : s.cfg.hooks.lookup id = some h) :
    invokeHook call id d sb dflt env s = runHook call id d sb h env s := by
  simp only [invokeHook, getS_bind, hh]

theorem runProg_skip {e : HookExpr} (hb : s.pos + evalExpr s d env e ≤ s.effBound) :
    runProg call id d sb (.skip e none) env s = .ok env (s.setPos (s.pos + evalExpr s d env e)) :=
  bind_of_ok (moveBits_ok hb)

/-- A hook passes over `k` bits and returns what it returns. -/
theorem runHook_of_prog {p : Nat} (hp : runProg call id d sb h.prog env s = .ok env (s.setPos p)) :
    runHook call id d sb h env s = evalRets d env h (s.setPos p) := by
  rw [runHook, bind_of_ok hp]

/-- A hook that passes over `k` bits, or does nothing, and returns no value. -/
theorem runHook_passes {k : Nat} (hh : h = { prog := .skip (.lit k) none } ∨ h = { prog := .nop } ∧ k = 0)
    (hb : s.pos + k ≤ s.effBound) : ∃ r, runHook call id d sb h env s = .ok r (s.setPos (s.pos + k)) := by
  rcases hh with rfl | ⟨rfl, rfl⟩
  · exact ⟨_, runHook_of_prog (runProg_skip hb)⟩
  · exact ⟨_, rfl⟩

/-! ### A hook that stops short -/

theorem plainBody_hook {r : HookRets} (hh : s.cfg.hooks.lookup id = some h)
    (hr : runHook call id d false h [] s = .ok r u) : plainBody call d id s = .ok () u := by
  rw [plainBody, bind_of_ok ((invokeHook_hook hh).trans hr), pure_run]

/-- A row of a plain kind whose hook passes over the first `n` bits of its body. -/
theorem exec_plain_passes {n : Nat} (hi : rowSel i = some (lvl, k)) (hp : PlainKind k id)
    (hw : lenBitsOf s.cfg lvl s.dir = some w) (hf : s.ExtFits w) (hn : n ≤ s.bodyBits w)
    (hh : s.cfg.hooks.lookup id = some h) (hprog : h = { prog := .skip (.lit n) none } ∨ h = { prog := .nop } ∧ n = 0) :
    let t := s.ieEnds (s.bodyEnd w) (s.extHeader w)
    exec i s =
      .next (if s.bodyBits w = n then t else t.warned .lengthConsistency (s.bodyStart w + n) (s.bodyBits w - n)) := by
  intro t
  have hb : s.bodyStart w + n ≤ ((s.opened w).setSeq .ieBody).effBound := by
    rw [State.setSeq_effBound, hf.opened_bound, State.bodyEnd]
    omega
  obtain ⟨r, hr⟩ := runHook_passes (s := (s.opened w).setSeq .ieBody) (call := topCall) (id := id) (d := s.dir)
    (sb := false) (env := []) hprog hb
  have harm : selArm s.dir k s.pos s.subtypeAt (s.bodyBits w) (s.opened w) =
      .ok () (((s.opened w).setSeq .ieBody).setPos (s.bodyStart w + n)) := by
    rw [selArm, hp.arm]
    exact plainBody_hook (s := (s.opened w).setSeq .ieBody) hh hr
  have hend : s.bodyEnd w = s.bodyStart w + s.bodyBits w := rfl
  rw [exec_of_rowSel hi, ieOp_extRow_closed hw hf harm rfl rfl (by rw [State.setPos_pos]; omega)]
  by_cases hall : s.bodyBits w = n
  · rw [State.closed_of_eq (by rw [State.setPos_pos]; omega), if_pos hall, ← hall]
    rfl
  · rw [State.closed_of_ne (by rw [State.setPos_pos]; omega), if_neg hall, State.setPos_pos, hend, Nat.add_sub_add_left]
    rfl

/-- Settles O26. -/
theorem closeSkipsWhatTheHookLeft : Obligations.CloseSkipsWhatTheHookLeft := by
  refine fun s k h hprog => ⟨fun p hp w hw hf hk hh => ?_, fun p hp hf hk hh => ?_⟩
  · obtain ⟨_, hsel, hplain⟩ := rowSel_of_plainRows1 hp
    exact exec_plain_passes hsel hplain ((lenBitsOf_one s).trans hw) hf hk hh hprog
  · obtain ⟨_, hsel, hplain⟩ := rowSel_of_plainRows2 hp
    exact exec_plain_passes hsel hplain (lenBitsOf_two s _) hf hk hh hprog

/-! ### STC_ZONE -/

/-- Two values that the hook returned. -/
theorem ruleStcZone_of_hook {m p : Nat}
    (hr : invokeHook call (.l1 .stcZone) d false (opaqueBody (.l1 .stcZone)) [] s = .ok (some [some m, some p]) u) :
    ruleStcZone call d s =
      .ok () (u.setSession { u.session with stcZoneMatrix := m, stcZoneDedicatedPilots := p }) := by
  rw [ruleStcZone, bind_of_ok hr]
  rfl

/-- With a hook that passes over the body and returns two numbers. -/
theorem exec_stcZone_hook {m p : Nat} (hw : s.l1LenBits = some w) (hf : s.ExtFits w)
    (hh : s.cfg.hooks.lookup (.l1 .stcZone) =
      some { prog := .skip .drem none, rets := [some (.lit m), some (.lit p)] }) :
    exec .stcZone s =
      .next
        { s.ieEnds (s.bodyEnd w) (s.extHeader w) with
          session := { s.session with stcZoneMatrix := m, stcZoneDedicatedPilots := p } } := by
  let v := (s.opened w).setSeq .ieBody
  have hd : evalExpr v s.dir [] .drem = s.bodyBits w := opened_drem s w
  have hrun : runHook topCall (.l1 .stcZone) s.dir false
      { prog := .skip .drem none, rets := [some (.lit m), some (.lit p)] } [] v =
        .ok (some [some m, some p]) (v.setPos (s.bodyEnd w)) := by
    have hprog := runProg_skip (s := v) (call := topCall) (id := .l1 .stcZone) (d := s.dir) (sb := false) (env := [])
      (e := .drem) (by rw [hd]; exact hf.opened_bound.ge)
    rw [hd] at hprog
    exact runHook_of_prog hprog
  have harm : selArm s.dir (some (.l1 .stcZone)) s.pos s.subtypeAt (s.bodyBits w) (s.opened w) =
      .ok () ((v.setPos (s.bodyEnd w)).setSession
        { s.session with stcZoneMatrix := m, stcZoneDedicatedPilots := p }) :=
    ruleStcZone_of_hook ((invokeHook_hook (s := v) hh).trans hrun)
  have hi : rowSel .stcZone = some (.one, some (.l1 .stcZone)) := rfl
  rw [exec_of_rowSel hi, ieOp_extRow_closed ((lenBitsOf_one s).trans hw) hf harm rfl rfl (Nat.le_refl _),
    State.closed_of_eq (by rfl)]
  rfl

/-- Settles O27. -/
theorem stcZoneWritesTheSession : Obligations.StcZoneWritesTheSession := fun _ _ hw hf =>
  ⟨fun _ _ hh => exec_stcZone_hook hw hf hh, exec_stcZone_default hw hf⟩

end Sys2Proof.Machine
end

section
/-! PROOFS. Level 0 (42_ie_dispatch.md R167 to R169): regular IEs, with and without a CID list, and the unassigned codes. -/

namespace Sys2Proof.Machine

variable {i : Instr} {s t u : State} {d : Dir} {f : Family}

/-! ### The parts of a regular IE -/

theorem readField_truncated {id : FieldId} {w : Nat} (hw : w ≤ s.cfg.doc.readMaxBits) (h : s.effBound < s.pos + w) :
    readField id w s = .error (.raised .truncated s.pos) s := by
  simp only [readField, getPos_bind]
  exact bind_of_error (readBits_truncated hw h)

theorem regBody_ok {k w : Nat} (hw : w ≤ s.cfg.doc.readMaxBits) (h : s.pos + w ≤ s.effBound) :
    regBody k w s = .ok () ((s.setPos (s.pos + w)).emit (s.fieldRec (.regBody k) s.pos w)) := by
  rw [regBody, bind_of_ok (readField_ok hw h)]
  rfl

theorem regBody_truncated {k w : Nat} (hw : w ≤ s.cfg.doc.readMaxBits) (h : s.effBound < s.pos + w) :
    regBody k w s = .error (.raised .truncated s.pos) s := by
  rw [regBody, bind_of_error (readField_truncated hw h)]

/-- A regular IE after its sample and its CID list. -/
def regWords (alt : Bool) : D Unit := do
  setSeq .ieRegBody
  let s ← getS
  regBody 0 s.cfg.doc.regBodyBits
  whenD alt (regBody 1 (s.cfg.doc.regBodyBitsAlt - s.cfg.doc.regBodyBits))

theorem regular_eq (d : Dir) (f : Family) :
    regular d f = (do let alt ← sampleAlt; cidListPart d f; regWords alt) := rfl

/-- The `n` body words that were read. -/
def State.regRead (s : State) (n : Nat) : State :=
  { s with
    pos := s.pos + 32 * n, state := .ieRegBody
    out := s.out ++ (List.range n).map fun k => s.fieldRec (.regBody k) (s.pos + 32 * k) 32 }

/-- How many body words there are. -/
def regCount (alt : Bool) : Nat := if alt = true then 2 else 1

/-- All the words are there. -/
theorem regWords_ok (hdoc : s.cfg.doc = {}) {alt : Bool} (h : s.pos + 32 * regCount alt ≤ s.effBound) :
    regWords alt s = .ok () (s.regRead (regCount alt)) := by
  have hr : 32 ≤ s.cfg.doc.readMaxBits := by rw [hdoc]
  have h0 : s.pos + 32 ≤ s.effBound := by unfold regCount at h; split at h <;> omega
  simp only [regWords, setSeq_bind, getS_bind, State.setSeq_cfg, hdoc]
  rw [bind_of_ok (regBody_ok (s := s.setSeq .ieRegBody) hr h0)]
  cases alt with
  | false => rfl
  | true =>
    refine (regBody_ok (s := ((s.setSeq .ieRegBody).setPos (s.pos + 32)).emit _) hr ?_).trans ?_
    · exact h
    · simp [State.regRead, regCount, List.range_succ, State.setPos, State.emit, State.setSeq, State.fieldRec,
        List.append_assoc]

/-- A word that is not there stops it after those that are. -/
theorem regWords_truncated (hdoc : s.cfg.doc = {}) {alt : Bool} {n : Nat} (hn : n < regCount alt)
    (h : s.pos + 32 * n ≤ s.effBound) (hshort : s.effBound < s.pos + 32 * (n + 1)) :
    regWords alt s = .error (.raised .truncated (s.pos + 32 * n)) (s.regRead n) := by
  have hr : 32 ≤ s.cfg.doc.readMaxBits := by rw [hdoc]
  simp only [regWords, setSeq_bind, getS_bind, State.setSeq_cfg, hdoc]
  cases n with
  | zero =>
    rw [bind_of_error (regBody_truncated (s := s.setSeq .ieRegBody) hr hshort)]
    simp [State.regRead, State.setSeq]
  | succ n =>
    obtain ⟨rfl, rfl⟩ : alt = true ∧ n = 0 := by
      unfold regCount at hn
      split at hn
      · exact ⟨‹_›, by omega⟩
      · omega
    rw [bind_of_ok (regBody_ok (s := s.setSeq .ieRegBody) hr h)]
    refine (regBody_truncated (s := ((s.setSeq .ieRegBody).setPos (s.pos + 32)).emit _) hr ?_).trans ?_
    · exact hshort
    · simp [State.regRead, State.setPos, State.emit, State.setSeq, State.fieldRec]

/-! ### Without a CID list -/

theorem exec_regularRow (hi : i ∈ regularRows) (s : State) : exec i s = ieOp (regularRow s.dir s.family) s := by
  simp only [regularRows, List.mem_cons, List.not_mem_nil, or_false] at hi
  rcases hi with rfl | rfl | rfl | rfl | rfl | rfl | rfl | rfl | rfl | rfl | rfl | rfl <;> rfl

theorem cidListPart_absent (h : ¬(f = .legacy ∧ d = .dl ∧ s.session.incCid = true)) :
    cidListPart d f s = .ok () s := by
  simp only [cidListPart, getS_bind, decide_eq_false h]
  rfl

/-- The type field of an IE that starts, where it is there, with the documented width. -/
theorem typeField_typed (hdoc : s.cfg.doc = {}) (h : s.pos + 4 ≤ s.effBound) :
    typeField s.startIe = .ok (memRead s.mem s.pos 4) s.typed := by
  have hbits : s.cfg.doc.l0TypeBits = 4 := by rw [hdoc]
  have hmax : s.cfg.doc.readMaxBits = 32 := by rw [hdoc]
  have hfield := typeField_ok (s := s.startIe) (by simp [hbits, hmax])
    (by rw [State.subAt, State.startIe_cfg, hbits]; exact h)
  rw [State.startIe_cfg, hbits] at hfield
  rw [hfield, State.typed, hbits]
  simp only [State.subAt, State.startIe_cfg, hbits, State.startIe_mem, State.startIe_pos]
  rfl

/-- How a regular IE without a CID list ends, its type field being there. -/
def State.regularEnds (s : State) (alt : Bool) : State :=
  let r0 := s.fieldRec .l0Type s.pos 4
  let r1 := s.fieldRec (.regBody 0) (s.pos + 4) 32
  let r2 := s.fieldRec (.regBody 1) (s.pos + 36) 32
  if s.effBound < s.pos + 36 then s.ieStops .truncated (s.pos + 4) [r0]
  else if alt = false then s.ieEnds (s.pos + 36) [r0, r1]
  else if s.effBound < s.pos + 68 then s.ieStops .truncated (s.pos + 36) [r0, r1]
  else s.ieEnds (s.pos + 68) [r0, r1, r2]

theorem regCount_false : regCount false = 1 := rfl

theorem regCount_true : regCount true = 2 := rfl

theorem regCount_pos (alt : Bool) : 0 < regCount alt := by
  unfold regCount
  split <;> omega

/-- The body of a regular IE whose sample is `alt`, run after its type. -/
theorem callOp_regWords {alt : Bool} {l : List Bool} {n : Nat} (hdoc : s.cfg.doc = {}) (h4 : s.pos + 4 ≤ s.effBound) :
    callOp (regWords alt) { s.typed with altSamples := l, draws := n } =
      .next { s.regularEnds alt with altSamples := l, draws := n } := by
  let v : State := { s.typed with altSamples := l, draws := n }
  have hbits : s.cfg.doc.l0TypeBits = 4 := by rw [hdoc]
  have hpos : v.pos = s.pos + 4 := by simp [v, State.typed, State.subAt, hbits]
  have hv : v.cfg.doc = {} := hdoc
  have heb : v.effBound = s.effBound := rfl
  have stops : ∀ n, n < regCount alt → s.pos + 4 + 32 * n ≤ s.effBound → s.effBound < s.pos + 4 + 32 * (n + 1) →
      callOp (regWords alt) v = .next ((v.regRead n).stop .truncated (v.pos + 32 * n)) := fun n hn h hshort =>
    callOp_of_raised (regWords_truncated hv hn (by rw [hpos, heb]; exact h) (by rw [hpos, heb]; exact hshort))
  have ends : s.pos + 4 + 32 * regCount alt ≤ s.effBound →
      callOp (regWords alt) v = .next (v.regRead (regCount alt)).finish := fun h =>
    callOp_of_ok (regWords_ok hv (by rw [hpos, heb]; exact h))
  change callOp (regWords alt) v = _
  unfold State.regularEnds
  by_cases h36 : s.effBound < s.pos + 36
  · rw [stops 0 (regCount_pos alt) h4 (by omega), if_pos h36]
    simp [v, State.regRead, State.typed, State.stop, State.ieStops, State.subAt, hbits, State.startIe, State.setPos,
      State.emit]
  · rw [if_neg h36]
    cases alt with
    | false =>
      rw [ends (by rw [regCount_false]; omega), if_pos rfl]
      simp [v, State.regRead, regCount, State.typed, State.finish, State.ieEnds, State.subAt, hbits, State.startIe,
        State.setPos, State.emit, State.fieldRec]
    | true =>
      rw [if_neg (by decide)]
      by_cases h68 : s.effBound < s.pos + 68
      · rw [stops 1 (by decide) (by omega) (by omega), if_pos h68]
        simp [v, State.regRead, State.typed, State.stop, State.ieStops, State.subAt, hbits, State.startIe, State.setPos,
          State.emit, State.fieldRec]
      · rw [ends (by rw [regCount_true]; omega), if_neg h68]
        simp [v, State.regRead, regCount, List.range_succ, State.typed, State.finish, State.ieEnds, State.subAt, hbits,
          State.startIe, State.setPos, State.emit, State.fieldRec]

/-- A regular IE whose sample is taken: fixed by the host or free. -/
theorem exec_regular {alt : Bool} {l : List Bool} {n : Nat} (hi : exec i s = ieOp (regularRow s.dir s.family) s)
    (hdoc : s.cfg.doc = {}) (hl : s.inp.cqichIdWidth.toNat ≤ 9)
    (hno : ¬(s.family = .legacy ∧ s.dir = .dl ∧ s.session.incCid = true)) (h4 : s.pos + 4 ≤ s.effBound)
    (halt : sampleAlt s.typed = .ok alt { s.typed with altSamples := l, draws := n }) :
    exec i s = .next { s.regularEnds alt with altSamples := l, draws := n } := by
  have hrun : regularRow s.dir s.family s.startIe = regWords alt { s.typed with altSamples := l, draws := n } := by
    rw [regularRow, bind_of_ok (typeField_typed hdoc h4), regular_eq, bind_of_ok halt,
      bind_of_ok (cidListPart_absent (s := { s.typed with altSamples := l, draws := n }) hno)]
  rw [hi, ieOp_eq hl, callOp_congr hrun, callOp_regWords hdoc h4]

theorem regularEnds_draws (s : State) (alt : Bool) : (s.regularEnds alt).draws = s.draws := by
  unfold State.regularEnds
  split_ifs <;> rfl

theorem regularEnds_false (h : s.pos + 36 ≤ s.effBound) :
    s.regularEnds false =
      s.ieEnds (s.pos + 36) [s.fieldRec .l0Type s.pos 4, s.fieldRec (.regBody 0) (s.pos + 4) 32] := by
  simp [State.regularEnds, Nat.not_lt.mpr h]

/-- The samples that are left play no part in it. -/
theorem regularEnds_setAlt (s : State) (alt : Bool) (l : List Bool) :
    (s.setAlt l).regularEnds alt = (s.regularEnds alt).setAlt l := by
  unfold State.regularEnds
  rw [State.setAlt_effBound, State.setAlt_pos]
  split_ifs <;> rfl

/-- A regular IE whose sample the host has fixed. -/
theorem exec_regular_fixed {alt : Bool} {l : List Bool} (hi : exec i s = ieOp (regularRow s.dir s.family) s)
    (hdoc : s.cfg.doc = {}) (hl : s.inp.cqichIdWidth.toNat ≤ 9)
    (hno : ¬(s.family = .legacy ∧ s.dir = .dl ∧ s.session.incCid = true)) (h4 : s.pos + 4 ≤ s.effBound)
    (halt : s.altSamples = alt :: l) : exec i s = .next { s.regularEnds alt with altSamples := l } := by
  rw [exec_regular (n := s.draws) hi hdoc hl hno h4 (sampleAlt_fixed (s := s.typed) halt)]
  congr 2
  rw [← regularEnds_draws s alt]

/-- The type field is not there. -/
theorem exec_regular_truncated (hi : exec i s = ieOp (regularRow s.dir s.family) s) (hdoc : s.cfg.doc = {})
    (hl : s.inp.cqichIdWidth.toNat ≤ 9) (h : s.effBound < s.pos + 4) :
    exec i s = .next (s.ieStops .truncated s.pos []) := by
  have htype : typeField s.startIe = .error (.raised .truncated s.pos) s.startIe := by
    simp only [typeField, getS_bind, State.startIe_cfg, hdoc]
    exact readField_truncated (by simp [hdoc]) h
  rw [hi, regularRow, ieOp_of_raised hl (bind_of_error htype)]
  simp [State.ieStops, State.stop, State.startIe]

/-- Settles O22: with no sample fixed the sample is the free value of R41. -/
theorem regularIe : Obligations.RegularIe := by
  intro i hi s hdoc hl hno r0 r1 r2
  refine ⟨exec_regular_truncated (exec_regularRow hi s) hdoc hl,
    fun h4 alt l halt => exec_regular_fixed (exec_regularRow hi s) hdoc hl hno h4 halt, fun h4 hnone => ?_⟩
  let alt := Config.freeAltFormat s.draws
  have hfixed := exec_regular_fixed (s := s.setAlt [alt]) (exec_regularRow hi _) hdoc hl hno h4 rfl
  rw [regularEnds_setAlt] at hfixed
  have halt : sampleAlt s.typed = .ok alt { s.typed with altSamples := [], draws := s.draws + 1 } := by
    simp [sampleAlt, State.typed, hnone, alt, State.setDraws, State.startIe, State.setPos, State.emit]
  exact ⟨alt, _, hfixed, exec_regular (exec_regularRow hi s) hdoc hl hno h4 halt⟩

/-! ### The unassigned codes -/

theorem unassigned_regular (hp : s.cfg.l0Unassigned = .regular) (t o : Nat) :
    unassigned d f t o s = regular d f s := by
  simp only [unassigned, getS_bind, hp]

theorem unassigned_stop (hp : s.cfg.l0Unassigned = .stop) (t o : Nat) :
    unassigned d f t o s =
      .error (.raised .unknownVariant s.pos) (s.addWarn { kind := .unknownVariant, off := o, info := t }) := by
  simp only [unassigned, getS_bind, hp]
  rfl

theorem exec_unassignedRow (hi : i ∈ [Instr.l0Unassigned11, .l0Unassigned12]) (s : State) :
    exec i s = ieOp (unassignedRow s.dir s.family) s := by
  simp only [List.mem_cons, List.not_mem_nil, or_false] at hi
  rcases hi with rfl | rfl <;> rfl

/-- Settles O24: the policy is looked at after the type field. -/
theorem unassignedCodes : Obligations.UnassignedCodes := by
  refine fun i hi s => ⟨fun hp => ?_, fun hp hdoc hl h4 => ?_⟩
  · rw [exec_unassignedRow hi, exec_regularRow (i := .regType0) (by simp [regularRows])]
    refine ieOp_congr ?_
    simp only [unassignedRow, regularRow, getPos_bind]
    refine bind_congr_ok fun t u htype => ?_
    obtain ⟨-, -, -, rfl⟩ := typeField_eq_ok htype
    refine unassigned_regular ?_ t _
    exact hp
  · have hrun : unassignedRow s.dir s.family s.startIe =
        .error (.raised .unknownVariant s.typed.pos)
          (s.typed.addWarn { kind := .unknownVariant, off := s.pos, info := memRead s.mem s.pos 4 }) := by
      simp only [unassignedRow, getPos_bind]
      rw [bind_of_ok (typeField_typed hdoc h4)]
      exact unassigned_stop (s := s.typed) hp _ _
    have hbits : s.cfg.doc.l0TypeBits = 4 := by rw [hdoc]
    rw [exec_unassignedRow hi, ieOp_of_raised hl hrun]
    simp [State.typed, State.stop, State.ieStops, State.warned, State.addWarn, State.subAt, hbits, State.startIe,
      State.setPos, State.emit]

/-! ### The legacy IE commands -/

/-- A legacy IE command is the dispatch with its direction and family in place. -/
theorem exec_ieLegacy {p : Instr × Dir} (hp : p ∈ [(Instr.ieDlLegacy, Dir.dl), (Instr.ieUlLegacy, Dir.ul)]) (s : State) :
    exec p.1 s = ieOp (decodeLegacyIe p.2) (s.setRoute p.2 .legacy) := by
  have hcommand : ∀ d, ieCommand d .legacy s = ieOp (decodeLegacyIe d) (s.setRoute d .legacy) := by
    intro d
    rcases Nat.lt_or_ge 9 s.inp.cqichIdWidth.toNat with hbad | hl
    · rw [ieCommand, ieOp_badConfig hbad, ieOp_badConfig (s := s.setRoute d .legacy) hbad]
    · rw [ieCommand, ieOp_eq hl, ieOp_eq (s := s.setRoute d .legacy) hl]
      exact callOp_congr (bind_of_ok (checkCompact_legacy _))
  simp only [List.mem_cons, List.not_mem_nil, or_false] at hp
  rcases hp with rfl | rfl
  · exact hcommand .dl
  · exact hcommand .ul

theorem l0Arm_regular {t : Nat} (h : t ≤ 10 ∨ t = 13) (o : Nat) : l0Arm d f o t = regular d f := by
  unfold l0Arm
  rcases h with h | rfl
  · rw [if_pos h]
  · rfl

/-- Settles O42: it is the row of a regular IE. -/
theorem ieCommandOnARegularIe : Obligations.IeCommandOnARegularIe := by
  intro p s l hp hdoc hl hcid halt ht h36
  let v := s.setRoute p.2 .legacy
  have hrow : ieOp (decodeLegacyIe p.2) v = exec .regType0 v := by
    refine ieOp_congr ?_
    simp only [decodeLegacyIe, regularRow, getPos_bind]
    refine bind_congr_ok fun t u htype => ?_
    rw [typeField_typed (s := v) hdoc (Nat.le_trans (by simp [v]) h36)] at htype
    cases htype
    exact congrFun (l0Arm_regular ht _) v.typed
  have hno : ¬(v.family = .legacy ∧ v.dir = .dl ∧ v.session.incCid = true) := by
    rintro ⟨-, hd, hc⟩
    exact absurd (hcid hd) (by simpa [v] using hc)
  rw [exec_ieLegacy hp, hrow,
    exec_regular_fixed (s := v) rfl hdoc hl hno (Nat.le_trans (by simp [v]) h36) halt,
    regularEnds_false (s := v) h36]
  rfl

/-! ### With a CID list -/

/-- The state after a CID list: identifiers of their forms' widths, one record each. -/
structure CidsRead (s : State) (n : Nat) (cids : List OutRec) (u : State) : Prop where
  state : u = { s with pos := s.pos + (cids.map OutRec.len).sum, out := s.out ++ cids }
  count : cids.length = n
  forms : ∀ r ∈ cids, r.id = .cid ∧ r.len ∈ [4, 8, 12, 16]

theorem cidList_succ (n : Nat) : cidList (n + 1) = rcidField >>= fun _ => cidList n := by
  rw [cidList, loopD_succ, bind_assoc]
  rfl

/-- A list whose longest form would fit. -/
theorem cidList_ok {n : Nat} (hr : 16 ≤ s.cfg.doc.readMaxBits) (h : s.pos + 16 * n ≤ s.effBound) :
    ∃ cids u, cidList n s = .ok () u ∧ CidsRead s n cids u := by
  induction n generalizing s with
  | zero => exact ⟨[], s, rfl, by simp, rfl, nofun⟩
  | succ n ih =>
    have hwidth := s.rcidWidth_le
    have hone := rcidField_ok hr (by omega : s.pos + s.rcidWidth ≤ s.effBound)
    let r : OutRec := { id := .cid, off := s.pos, len := s.rcidWidth, val := some s.rcidValue }
    obtain ⟨cids, u, hrun, hread⟩ := ih (s := (s.setPos (s.pos + s.rcidWidth)).emit r) hr
      (by simp only [State.emit_pos, State.setPos_pos, State.emit_effBound, State.setPos_effBound]; omega)
    refine ⟨r :: cids, u, ?_, ?_, ?_, ?_⟩
    · rw [cidList_succ, bind_of_ok hone, hrun]
    · rw [hread.state]
      simp [State.emit, State.setPos, r, Nat.add_assoc]
    · rw [List.length_cons, hread.count]
    · exact List.forall_mem_cons.mpr ⟨⟨rfl, s.rcidWidth_mem⟩, hread.forms⟩

theorem CidsRead.pos_le {n : Nat} {cids : List OutRec} (h : CidsRead s n cids u) :
    (cids.map OutRec.len).sum ≤ 16 * n := by
  rw [← h.count, Nat.mul_comm]
  refine (List.sum_le_card_nsmul _ 16 fun x hx => ?_).trans_eq (by simp)
  obtain ⟨r, hr, rfl⟩ := List.mem_map.mp hx
  have := (h.forms r hr).2
  simp only [List.mem_cons, List.not_mem_nil, or_false] at this
  omega

/-- All that sampling can do, in one state. -/
theorem sampleAlt_answers (s : State) :
    ∃ alt l n, sampleAlt s = .ok alt { s with altSamples := l, draws := n } ∧ ∀ b r, s.altSamples = b :: r → alt = b := by
  rcases sampleAlt_cases s with ⟨b, l, hs, hrun⟩ | ⟨hs, hrun⟩
  · exact ⟨b, l, s.draws, hrun, fun b' r' h => (List.cons.inj (hs.symm.trans h)).1⟩
  · exact ⟨_, s.altSamples, _, hrun, fun b r h => by simp [hs] at h⟩

/-- The CID list of a downlink IE with `inc_cid` = 1, where the longest would fit. -/
theorem cidListPart_ok (hd : d = .dl) (hf : f = .legacy) (hc : s.session.incCid = true)
    (hr : 16 ≤ s.cfg.doc.readMaxBits) (hw : s.cfg.ncidBits ≤ s.cfg.doc.readMaxBits)
    (h : s.pos + s.cfg.ncidBits + 16 * memRead s.mem s.pos s.cfg.ncidBits ≤ s.effBound) :
    ∃ cids u, cidListPart d f s = .ok () u ∧
      CidsRead
        (((s.setSeq .ieCidList).setPos (s.pos + s.cfg.ncidBits)).emit (s.fieldRec .nCid s.pos s.cfg.ncidBits))
        (memRead s.mem s.pos s.cfg.ncidBits) cids u := by
  obtain ⟨cids, u, hrun, hread⟩ := cidList_ok
    (s := ((s.setSeq .ieCidList).setPos (s.pos + s.cfg.ncidBits)).emit (s.fieldRec .nCid s.pos s.cfg.ncidBits))
    (n := memRead s.mem s.pos s.cfg.ncidBits) hr h
  refine ⟨cids, u, ?_, hread⟩
  have hcount := readField_ok (s := s.setSeq .ieCidList) (id := .nCid) (w := s.cfg.ncidBits) hw
    (by rw [State.setSeq_pos, State.setSeq_effBound]; omega)
  simp only [cidListPart, getS_bind, hd, hf, hc, and_self, decide_true, whenD_true, setSeq_bind]
  rw [bind_of_ok hcount]
  exact hrun

/-- Settles O23: the type, the sample, the list and the body words, each where the one before it ended. -/
theorem regularIeWithCidList : Obligations.RegularIeWithCidList := by
  intro i hi s hdoc hl hf hd hc hw n h
  have hmax : s.cfg.doc.readMaxBits = 32 := by rw [hdoc]
  have hbits : s.cfg.doc.l0TypeBits = 4 := by rw [hdoc]
  obtain ⟨alt, l, m, hsample, halt⟩ := sampleAlt_answers s.typed
  let v : State := { s.typed with altSamples := l, draws := m }
  have hpos : v.pos = s.pos + 4 := by simp [v, State.typed, State.subAt, hbits]
  have hn : memRead v.mem v.pos v.cfg.ncidBits = n := by rw [hpos]; rfl
  obtain ⟨cids, u, hlist, hread⟩ := cidListPart_ok (s := v) hd hf hc (by simp [v, State.typed, hmax])
    (by simpa [v, State.typed, hmax] using hw) (by rw [hn, hpos]; exact Nat.le_trans (by simp [v, State.typed]) h)
  have hsum := hread.pos_le
  rw [hn] at hread hsum
  have hupos : u.pos = s.pos + 4 + s.cfg.ncidBits + (cids.map OutRec.len).sum := by rw [hread.state]; simp [hpos]; rfl
  have hueb : u.effBound = s.effBound := by rw [hread.state]; rfl
  have hucfg : u.cfg = s.cfg := by rw [hread.state]; rfl
  have hcount : regCount alt ≤ 2 := by unfold regCount; split <;> omega
  have hwords := regWords_ok (s := u) (alt := alt) (hucfg ▸ hdoc) (by rw [hupos, hueb]; omega)
  have hrun : regularRow s.dir s.family s.startIe = .ok () (u.regRead (regCount alt)) := by
    rw [regularRow, bind_of_ok (typeField_typed hdoc (by omega)), regular_eq, bind_of_ok hsample, bind_of_ok hlist,
      hwords]
  have hframe : u.session = s.session ∧ u.limstk = s.limstk ∧ u.warn = s.warn ∧ u.err = 0 := by
    rw [hread.state]
    exact ⟨rfl, rfl, rfl, rfl⟩
  obtain ⟨hsession, hlim, hwarn, herr⟩ := hframe
  have hout : u.out =
      s.out ++ [s.fieldRec .l0Type s.pos 4, s.fieldRec .nCid (s.pos + 4) s.cfg.ncidBits] ++ cids := by
    rw [hread.state]
    simp [v, State.typed, State.fieldRec, State.subAt, hbits]
  refine ⟨_, cids, (List.range (regCount alt)).map fun k => u.fieldRec (.regBody k) (u.pos + 32 * k) 32,
    (exec_regularRow hi s).trans (ieOp_of_ok hl hrun), rfl, herr, hsession, hlim, hwarn, hread.count, hread.forms, ?_,
    fun b r hs => ?_, ?_, ?_⟩
  · cases alt <;> simp [regCount, List.range_succ, State.fieldRec]
  · obtain rfl := halt b r hs
    simp [regCount]
  · rw [← hout]
    rfl
  · simp only [List.length_map, List.length_range]
    rw [← hupos]
    rfl

end Sys2Proof.Machine
end

section
/-! PROOFS. The dispatch agrees with the decoder (42_ie_dispatch.md R162, R170 to R172, 30_encoding.md R93 to R100): a legacy
IE command answers as the row that its first bits decode to. -/

namespace Sys2Proof.Machine

variable {i : Instr} {s t u : State} {d : Dir} {rest : List Bool}

/-! ### The head of a structure -/

theorem bitsFrom_length (m : Memory) (p n : Nat) : (bitsFrom m p n).length = n := by
  induction n generalizing p with
  | zero => rfl
  | succ n ih => rw [bitsFrom, List.length_cons, ih]

theorem bitsFrom_add (m : Memory) (p a b : Nat) : bitsFrom m p (a + b) = bitsFrom m p a ++ bitsFrom m (p + a) b := by
  induction a generalizing p with
  | zero => rw [Nat.zero_add, Nat.add_zero]; rfl
  | succ a ih => rw [Nat.succ_add, bitsFrom, ih, bitsFrom, List.cons_append, Nat.add_assoc, Nat.add_comm 1]

/-- The bits of a field are its value. -/
theorem bitsVal_bitsFrom (m : Memory) (p n : Nat) : bitsVal (bitsFrom m p n) = memRead m p n := by
  have key : ∀ n p a, (bitsFrom m p n).foldl (fun v b => 2 * v + b.toNat) a = a * 2 ^ n + memRead m p n := by
    intro n
    induction n with
    | zero => intro p a; simp [bitsFrom]
    | succ n ih =>
      intro p a
      have hbit : (decide (bufBit m p = 1)).toNat = bufBit m p := by
        have := bufBit_lt m p
        by_cases h : bufBit m p = 1 <;> simp [h]
        omega
      rw [bitsFrom, List.foldl_cons, ih, hbit, Nat.add_comm n 1, memRead_add, memRead_one]
      ring
  rw [bitsVal, key, Nat.zero_mul, Nat.zero_add]

/-- A field at the start of `n` bits of the buffer. -/
theorem takeField_bitsFrom (m : Memory) (p n w : Nat) :
    takeField w (bitsFrom m p n) =
      if n < w then none else some (memRead m p w, bitsFrom m (p + w) (n - w)) := by
  unfold takeField
  rw [bitsFrom_length]
  split
  · rfl
  · obtain ⟨k, rfl⟩ := Nat.exists_eq_add_of_le (Nat.le_of_not_lt ‹¬n < w›)
    have htake : (bitsFrom m p (w + k)).take w = bitsFrom m p w := by
      rw [bitsFrom_add, List.take_left' (bitsFrom_length m p w)]
    have hdrop : (bitsFrom m p (w + k)).drop w = bitsFrom m (p + w) k := by
      rw [bitsFrom_add, List.drop_left' (bitsFrom_length m p w)]
    rw [htake, hdrop, bitsVal_bitsFrom, Nat.add_sub_cancel_left]

/-! ### The row of a Level-0 code -/

theorem l0Row_regular {c : Params} {t : Nat} (h : t ≤ 10 ∨ t = 13) : l0Row c d t rest ∈ regularRows := by
  rcases h with h | rfl
  · interval_cases t <;> simp [l0Row, regularRows]
  · simp [l0Row, regularRows]

theorem l0Row_unassigned {c : Params} {t : Nat} (h : t = 11 ∨ t = 12 ∨ 16 ≤ t) :
    l0Row c d t rest ∈ [Instr.l0Unassigned11, .l0Unassigned12] := by
  rcases h with rfl | rfl | h
  · simp [l0Row]
  · simp [l0Row]
  · obtain ⟨n, rfl⟩ := Nat.exists_eq_add_of_le' h
    simp [l0Row]

theorem l0Arm_unassigned {f : Family} {t : Nat} (h : t = 11 ∨ t = 12 ∨ 16 ≤ t) (o : Nat) :
    l0Arm d f o t = unassigned d f t o := by
  unfold l0Arm
  rcases h with rfl | rfl | h
  · rfl
  · rfl
  · rw [if_neg (by omega), if_neg (by omega), if_neg (by omega), if_neg (by omega), if_neg (by omega)]

/-- An Extended-2 head, however much of it is there, is the escape's. -/
theorem exec_decodeExtended2 (hrest : ∀ sub r, takeField s.cfg.doc.subtypeBits rest = some (sub, r) → sub = s.subtypeAt) :
    exec (decodeExtended2 s.cfg s.dir rest) s = exec .extended2 s := by
  unfold decodeExtended2
  split
  next sub r m hsub hmap =>
    obtain rfl := hrest sub r hsub
    refine (exec_extended2_eq_l2Row ?_).symm
    cases hd : s.dir <;> simp only [hd] at hmap <;> simp [kindIn, hmap]
    exact congrArg _ (congrArg _ (Option.some.inj hmap))
  next => rfl

/-- So is an Extended head. -/
theorem exec_decodeExtended (hrest : ∀ sub r, takeField s.cfg.doc.subtypeBits rest = some (sub, r) → sub = s.subtypeAt) :
    exec (decodeExtended s.cfg s.dir rest) s = ieOp (extendedRow s.dir) s := by
  unfold decodeExtended
  split
  next hd => rw [hd]; rfl
  next sub r hd hsub =>
    obtain rfl := hrest sub r hsub
    rw [← exec_extended_eq_l1Row hd, hd]
    rfl
  next hd hnone => rw [hd]; rfl

/-! ### The command and the row -/

/-- A row that does after the type field what the dispatch does for the code there. -/
theorem ieOp_decodeLegacyIe {g : Nat → Nat → D Unit}
    (h : g s.pos (memRead s.mem s.pos s.cfg.doc.l0TypeBits) =
      l0Arm d .legacy s.pos (memRead s.mem s.pos s.cfg.doc.l0TypeBits)) :
    ieOp (do let o ← getPos; let t ← typeField; g o t) s = ieOp (decodeLegacyIe d) s := by
  refine ieOp_congr ?_
  simp only [decodeLegacyIe, getPos_bind]
  refine bind_congr_ok fun t u htype => ?_
  obtain ⟨-, -, rfl, -⟩ := typeField_eq_ok htype
  exact congrFun h u

/-- The row of the code at POS answers as the dispatch does. -/
theorem exec_l0Row (hf : s.family = .legacy)
    (hrest : ∀ sub r, takeField s.cfg.doc.subtypeBits rest = some (sub, r) → sub = s.subtypeAt) :
    exec (l0Row s.cfg s.dir (memRead s.mem s.pos s.cfg.doc.l0TypeBits) rest) s = ieOp (decodeLegacyIe s.dir) s := by
  generalize ht : memRead s.mem s.pos s.cfg.doc.l0TypeBits = t
  have hcases : (t ≤ 10 ∨ t = 13) ∨ (t = 11 ∨ t = 12 ∨ 16 ≤ t) ∨ t = 14 ∨ t = 15 := by omega
  rcases hcases with h | h | rfl | rfl
  · rw [exec_regularRow (l0Row_regular h), hf]
    exact ieOp_decodeLegacyIe (g := fun _ _ => regular s.dir .legacy) (by rw [ht, l0Arm_regular h])
  · rw [exec_unassignedRow (l0Row_unassigned h), hf]
    exact ieOp_decodeLegacyIe (g := fun o t => unassigned s.dir .legacy t o) (by rw [ht, l0Arm_unassigned h])
  · refine (exec_decodeExtended2 hrest).trans ?_
    exact ieOp_decodeLegacyIe (g := fun o _ => extended2 s.dir o) (by rw [ht]; rfl)
  · refine (exec_decodeExtended hrest).trans ?_
    exact ieOp_decodeLegacyIe (g := fun o _ => extended s.dir o) (by rw [ht]; rfl)

/-- Settles O41: the decoder reads the type and the sub-type that the dispatch reads. -/
theorem ieCommandRunsTheDecodedRow : Obligations.IeCommandRunsTheDecodedRow := by
  intro p s hp
  let n := min (s.cfg.doc.l0TypeBits + s.cfg.doc.subtypeBits) s.rem
  have hdecode : decodeWire s.cfg (.ie p.2) (headBits s (.ie p.2)) =
      if n < s.cfg.doc.l0TypeBits then .error .shortHead
      else .ok (l0Row s.cfg p.2 (memRead s.mem s.pos s.cfg.doc.l0TypeBits)
        (bitsFrom s.mem s.subAt (n - s.cfg.doc.l0TypeBits))) := by
    change decodeL0 s.cfg p.2 (bitsFrom s.mem s.pos n) = _
    unfold decodeL0
    rw [takeField_bitsFrom]
    split_ifs <;> rfl
  rw [hdecode, exec_ieLegacy hp]
  refine ⟨fun i hi => ?_, fun e he hl hw => ?_⟩
  · split at hi
    · cases hi
    · cases hi
      refine (exec_l0Row (s := s.setRoute p.2 .legacy) rfl fun sub r hsub => ?_).symm
      rw [State.setRoute_cfg, takeField_bitsFrom] at hsub
      split at hsub <;> cases hsub
      rfl
  · split at he
    · have hshort : s.effBound < s.pos + s.cfg.doc.l0TypeBits := by
        have hn : n = min (s.cfg.doc.l0TypeBits + s.cfg.doc.subtypeBits) s.rem := rfl
        have hrem : s.rem = s.effBound - s.pos := rfl
        omega
      have htype : typeField (s.setRoute p.2 .legacy).startIe =
          .error (.raised .truncated s.pos) (s.setRoute p.2 .legacy).startIe :=
        readField_truncated (s := (s.setRoute p.2 .legacy).startIe) hw hshort
      have hrun : decodeLegacyIe p.2 (s.setRoute p.2 .legacy).startIe =
          .error (.raised .truncated s.pos) (s.setRoute p.2 .legacy).startIe := by
        simp only [decodeLegacyIe, getPos_bind]
        exact bind_of_error htype
      rw [ieOp_of_raised (s := s.setRoute p.2 .legacy) hl hrun]
      simp [State.ieStops, State.stop, State.startIe]
    · cases he

end Sys2Proof.Machine
end

section
/-! PROOFS. The Compact family (42_ie_dispatch.md R213 to R215): the type code, the body to the end of the region, and what
the two kinds that write the session make of their hook's values. -/

namespace Sys2Proof.Machine

variable {s t u : State} {d : Dir} {m : CompactMap} {k : CompactKind} {call : HookCall → D Unit}

/-! ### The operations -/

/-- A Compact row, with a map, is the Compact body from the started state. -/
theorem exec_compactIe (hl : s.inp.cqichIdWidth.toNat ≤ 9) (hm : s.cfg.compactMap = some m) :
    exec .compactIe s = callOp (compactBody topCall s.dir m) s.startIe := by
  have hcheck : checkCompact .compact s.startIe = .ok () s.startIe := checkCompact_run fun _ => by simp [hm]
  have hrun : (do checkCompact .compact; decodeCompactIe topCall s.dir) s.startIe =
      compactBody topCall s.dir m s.startIe := by
    rw [bind_of_ok hcheck]
    simp only [decodeCompactIe, getS_bind, State.startIe_cfg, hm]
  exact (ieOp_eq hl).trans (callOp_congr hrun)

/-- A Compact IE command is the row, with the command's direction and family in place. -/
theorem exec_compactCommand {p : Instr × Dir} (hp : p ∈ [(Instr.ieDlCompact, Dir.dl), (Instr.ieUlCompact, Dir.ul)])
    (hl : s.inp.cqichIdWidth.toNat ≤ 9) (hm : s.cfg.compactMap = some m) :
    exec p.1 s = exec .compactIe (s.setRoute p.2 .compact) := by
  have hcheck : checkCompact .compact s.startIe = .ok () s.startIe := checkCompact_run fun _ => by simp [hm]
  have hcommand : ∀ d, ieCommand d .compact s = exec .compactIe (s.setRoute d .compact) := by
    intro d
    have hrun : (do checkCompact .compact; modS (fun s => s.setRoute d .compact); decodeIe d .compact) s.startIe =
        compactBody topCall d m (s.setRoute d .compact).startIe := by
      rw [bind_of_ok hcheck, modS_bind]
      simp only [decodeIe, decodeCompactIe, getS_bind, State.setRoute_cfg, State.startIe_cfg, hm]
      rfl
    rw [exec_compactIe (s := s.setRoute d .compact) hl hm, ieCommand, ieOp_eq hl]
    exact callOp_congr hrun
  simp only [List.mem_cons, List.not_mem_nil, or_false] at hp
  rcases hp with rfl | rfl
  · exact hcommand .dl
  · exact hcommand .ul

/-! ### The type code and the body -/

/-- The record of a type code, where it has any bits. -/
def State.codeRecs (s : State) (w : Nat) : List OutRec := if w = 0 then [] else [s.fieldRec .l0Type s.pos w]

/-- The state of a Compact IE whose type code has been read, its body about to begin. -/
def State.coded (s : State) (w : Nat) : State :=
  { s.startIe with pos := s.pos + w, out := s.out ++ s.codeRecs w, state := .ieBody }

theorem compactCode_ok {w : Nat} (hw : w ≤ s.cfg.doc.readMaxBits) (h : s.pos + w ≤ s.effBound) :
    compactCode w s = .ok (memRead s.mem s.pos w) { s with pos := s.pos + w, out := s.out ++ s.codeRecs w } := by
  unfold compactCode State.codeRecs
  split
  next h0 => simp [h0]
  next h0 => exact readField_ok hw h

/-- Where no limit lies past the buffer, what is left of the region is what is left to read. -/
theorem drem_eq_rem (h : ∀ b ∈ s.limstk.head?, b ≤ s.total) : s.drem = s.effBound - s.pos := by
  unfold State.drem State.effBound
  split
  · rfl
  next b l hl => rw [Nat.min_eq_right (h b (by simp [hl]))]

theorem coded_drem (w : Nat) (h : ∀ b ∈ s.limstk.head?, b ≤ s.total) : (s.coded w).drem = s.effBound - (s.pos + w) :=
  drem_eq_rem (s := s.coded w) h

/-- The kind that a map gives the code at POS. -/
def State.compactKindAt (s : State) (m : CompactMap) : CompactKind :=
  (m.table.lookup (memRead s.mem s.pos m.codeBits)).getD (.other (memRead s.mem s.pos m.codeBits))

/-- A Compact IE after its type code. -/
theorem compactBody_coded (hw : m.codeBits ≤ s.cfg.doc.readMaxBits) (h : s.pos + m.codeBits ≤ s.effBound) :
    compactBody call d m s.startIe =
      (do
        let r ← invokeHook call (.compact (s.compactKindAt m)) d false (opaqueBody (.compact (s.compactKindAt m)))
          [(0, memRead s.mem s.pos m.codeBits)]
        compactEffect (s.compactKindAt m) r) (s.coded m.codeBits) := by
  rw [compactBody, bind_of_ok (compactCode_ok (s := s.startIe) hw h)]
  rfl

/-! ### The kinds without a session effect -/

theorem compactEffect_plain {r : HookRets} (hf : k ≠ .formatConfiguration) (hh : k ≠ .harqModeSwitch) :
    compactEffect k r = pure () := by
  cases k with
  | formatConfiguration => exact absurd rfl hf
  | harqModeSwitch => exact absurd rfl hh
  | _ => rfl

/-- The body of such a kind, with no hook, is one record to the end of the region. -/
theorem exec_compactIe_plain (hl : s.inp.cqichIdWidth.toNat ≤ 9) (hm : s.cfg.compactMap = some m)
    (hw : m.codeBits ≤ s.cfg.doc.readMaxBits) (h : s.pos + m.codeBits ≤ s.effBound)
    (hlim : ∀ b ∈ s.limstk.head?, b ≤ s.total) (hf : s.compactKindAt m ≠ .formatConfiguration)
    (hh : s.compactKindAt m ≠ .harqModeSwitch) (hn : s.cfg.hooks.lookup (.compact (s.compactKindAt m)) = none) :
    exec .compactIe s =
      .next
        (s.ieEnds s.effBound
          (s.codeRecs m.codeBits ++
            [passRec (.body (.compact (s.compactKindAt m))) (s.pos + m.codeBits)
              (s.effBound - (s.pos + m.codeBits))])) := by
  have hend : (s.coded m.codeBits).pos + (s.effBound - (s.pos + m.codeBits)) = s.effBound := Nat.add_sub_cancel' h
  have hskip := skipField_ok (s := s.coded m.codeBits) (id := .body (.compact (s.compactKindAt m)))
    (n := s.effBound - (s.pos + m.codeBits)) hend.le
  have hrun : compactBody topCall s.dir m s.startIe = .ok ()
      (((s.coded m.codeBits).setPos s.effBound).emit
        (passRec (.body (.compact (s.compactKindAt m))) (s.pos + m.codeBits) (s.effBound - (s.pos + m.codeBits)))) := by
    refine (compactBody_coded hw h).trans
      ((invokeHook_opaque (s := s.coded m.codeBits) hn (coded_drem _ hlim)).trans ((bind_of_ok hskip).trans ?_))
    rw [compactEffect_plain hf hh, hend]
    rfl
  rw [exec_compactIe hl hm, callOp_of_ok hrun]
  simp [State.ieEnds, State.finish, State.coded, State.startIe, State.setPos, State.emit]

/-- Settles O38. -/
theorem plainCompactIes : Obligations.PlainCompactIes := by
  intro s m hl hm hw h hlim c k hf hh hn p t
  have row : ∀ d f, exec .compactIe (s.setRoute d f) = .next (t.setRoute d f) := fun d f =>
    exec_compactIe_plain (s := s.setRoute d f) hl hm hw h hlim hf hh hn
  refine ⟨row s.dir s.family, ?_, ?_⟩
  · rw [exec_compactCommand (p := (.ieDlCompact, .dl)) (by simp) hl hm, row]
    rfl
  · rw [exec_compactCommand (p := (.ieUlCompact, .ul)) (by simp) hl hm, row]
    rfl

/-! ### The kinds with one -/

/-- A hook that passes over the body and returns numbers. -/
def passingHook (vs : List Nat) : HookDef := { prog := .skip .drem none, rets := vs.map fun v => some (.lit v) }

theorem runHook_passingHook {id : HookId} {sb : Bool} {env : Env} {vs : List Nat} (h : s.pos + s.drem ≤ s.effBound) :
    runHook call id d sb (passingHook vs) env s = .ok (some (vs.map some)) (s.setPos (s.pos + s.drem)) := by
  rw [runHook_of_prog (h := passingHook vs) (runProg_skip (e := .drem) h)]
  simp [evalRets, passingHook, evalExpr, Function.comp_def]

/-- A Compact IE whose hook passes over the body: the effect of its kind on what the hook returned. -/
theorem exec_compactIe_hook {vs : List Nat} {g : State → State} (hl : s.inp.cqichIdWidth.toNat ≤ 9)
    (hm : s.cfg.compactMap = some m) (hw : m.codeBits ≤ s.cfg.doc.readMaxBits) (h : s.pos + m.codeBits ≤ s.effBound)
    (hlim : ∀ b ∈ s.limstk.head?, b ≤ s.total)
    (hk : m.table.lookup (memRead s.mem s.pos m.codeBits) = some k)
    (hh : s.cfg.hooks.lookup (.compact k) = some (passingHook vs))
    (heff : compactEffect k (some (vs.map some)) = modS g) :
    exec .compactIe s = .next (g ((s.coded m.codeBits).setPos s.effBound)).finish := by
  have hkind : s.compactKindAt m = k := by rw [State.compactKindAt, hk]; rfl
  have hdrem : (s.coded m.codeBits).pos + (s.coded m.codeBits).drem = s.effBound := by
    rw [coded_drem _ hlim]
    exact Nat.add_sub_cancel' h
  have hhook := runHook_passingHook (s := s.coded m.codeBits) (call := topCall) (d := s.dir) (id := .compact k)
    (sb := false) (env := [(0, memRead s.mem s.pos m.codeBits)]) (vs := vs) hdrem.le
  have hrun : compactBody topCall s.dir m s.startIe = .ok () (g ((s.coded m.codeBits).setPos s.effBound)) := by
    rw [hdrem] at hhook
    rw [compactBody_coded hw h, hkind]
    refine (bind_of_ok (s := s.coded m.codeBits) ((invokeHook_hook (s := s.coded m.codeBits) hh).trans hhook)).trans ?_
    exact congrFun heff _
  rw [exec_compactIe hl hm, callOp_of_ok hrun]

theorem cidTypeCode_cidTypeOf {a : Nat} (h : a < 4) : cidTypeCode (cidTypeOf (BitVec.ofNat 2 a)) = a := by
  interval_cases a <;> rfl

theorem harqModeCode_harqModeOf {a : Nat} (h : a < 2) : harqModeCode (harqModeOf (decide (a % 2 = 1))) = a := by
  interval_cases a <;> rfl

/-- FORMAT_CONFIGURATION with all its values. -/
theorem compactEffect_formatConfiguration (a b e : Nat) (xs : List Nat) :
    compactEffect .formatConfiguration (some ((a :: b :: e :: xs).map some)) =
      modSession fun x =>
        { x with
          cidType := cidTypeOf (BitVec.ofNat 2 a)
          fmtCfg := { maxLogicalBands := b, bandAmcSubchannelType := e, symbolCounts := xs } } := by
  have hxs : ((xs.map some).map fun v => Option.getD v 0) = xs := by simp
  funext s
  simp [compactEffect, ruleFormatConfiguration, retAt, orFree, retOrFree, hxs]

theorem compactEffect_harqModeSwitch (a : Nat) :
    compactEffect .harqModeSwitch (some [some a]) =
      modSession fun x => { x with harqMode := harqModeOf (decide (a % 2 = 1)) } := rfl

/-- Settles O39. -/
theorem compactSessionWrites : Obligations.CompactSessionWrites := by
  intro s m hl hm hw h hlim c t
  refine ⟨fun a b e xs ha hk hh => ⟨_, cidTypeCode_cidTypeOf ha, ?_⟩,
    fun a ha hk hh => ⟨_, harqModeCode_harqModeOf ha, ?_⟩⟩
  · exact exec_compactIe_hook (vs := a :: b :: e :: xs) hl hm hw h hlim hk hh (compactEffect_formatConfiguration a b e xs)
  · exact exec_compactIe_hook (vs := [a]) hl hm hw h hlim hk hh (compactEffect_harqModeSwitch a)

end Sys2Proof.Machine
end

section
/-! PROOFS. HARQ_MAP (42_ie_dispatch.md R203): its body is a container inside the limit of the IE (43_sub_burst.md R220), so
the row of the layout, run there by itself, does what HARQ_MAP does before its Close. -/

namespace Sys2Proof.Machine

variable {i : Instr} {s t u x : State} {d : Dir} {w k b : Nat} {sel : Option Layout} {l : Layout}
  {call : HookCall → D Unit}

/-! ### Sub-steps stay within the innermost limit, whatever lies outside it -/

/-- A state without its `k` outermost limits and without its past. -/
def State.inner (s : State) (k : Nat) : State :=
  { s with limstk := s.limstk.take (s.limstk.length - k), start := 0, msgStartByte := 0 }

theorem inner_effBound_ge (s : State) (k : Nat) : s.effBound ≤ (s.inner k).effBound := by
  cases hl : s.limstk with
  | nil => simp [State.inner, State.effBound, State.total, hl]
  | cons top l =>
    have htotal : (s.inner k).total = s.total := rfl
    have htake : (s.inner k).limstk = (top :: l).take ((top :: l).length - k) := by rw [State.inner, hl]
    cases hn : (top :: l).length - k with
    | zero =>
      rw [hn, List.take_zero] at htake
      simp [State.effBound, hl, htake, htotal]
    | succ n =>
      rw [hn, List.take_succ_cons] at htake
      simp [State.effBound, hl, htake, htotal]

theorem inner_move (h : (s.inner k).CursorOk) (hb : s.pos + w ≤ s.effBound) :
    ((s.setPos (s.pos + w)).inner k).CursorOk :=
  (h.move (hb.trans (inner_effBound_ge s k))).of_regs rfl

theorem inner_push {n : Nat} (h : (s.inner k).CursorOk) (hd : s.limstk.length < s.cfg.doc.limDepth)
    (ht : ∀ b ∈ s.limstk.head?, s.pos + n ≤ b) : ((s.setLimstk ((s.pos + n) :: s.limstk)).inner k).CursorOk := by
  rcases Nat.lt_or_ge s.limstk.length k with hk | hk
  · refine h.of_regs ?_
    have hnone : s.limstk.length - k = 0 := by omega
    have hpushed : s.limstk.length + 1 - k = 0 := by omega
    simp [State.cursorRegs, State.inner, State.setLimstk, hnone, hpushed]
  · have hdepth : (s.inner k).limstk.length < s.cfg.doc.limDepth := by
      simp only [State.inner, List.length_take]
      omega
    have htop : ∀ b ∈ (s.inner k).limstk.head?, s.pos + n ≤ b := by
      intro b hb
      refine ht b ?_
      rw [State.inner, List.head?_take] at hb
      split at hb
      · cases hb
      · exact hb
    refine (h.push hdepth htop).of_regs ?_
    have hpushed : s.limstk.length + 1 - k = s.limstk.length - k + 1 := by omega
    simp [State.cursorRegs, State.inner, State.setLimstk, hpushed]

theorem inner_pop {l : List Nat} (h : (s.inner k).CursorOk) (hl : s.limstk = b :: l) :
    ((s.setLimstk l).inner k).CursorOk := by
  rcases Nat.lt_or_ge l.length k with hk | hk
  · refine h.of_regs ?_
    have hnone : l.length - k = 0 := by omega
    have hpopped : l.length + 1 - k = 0 := by omega
    simp [State.cursorRegs, State.inner, State.setLimstk, hl, hnone, hpopped]
  · have hpopped : l.length + 1 - k = l.length - k + 1 := by omega
    have htake : (s.inner k).limstk = b :: l.take (l.length - k) := by
      simp [State.inner, hl, hpopped]
    exact (h.pop htake).of_regs rfl

theorem inner_chainRule (k : Nat) : ChainRule fun s t => (s.inner k).CursorOk → (t.inner k).CursorOk where
  refl _ := id
  trans h g := g ∘ h
  move _ _ hb c := inner_move c hb
  field _ _ _ hb _ _ _ c := (inner_move c hb).of_regs rfl
  emitted _ _ _ _ _ _ _ _ _ c := c.of_regs rfl
  push _ _ hd ht c := inner_push c hd ht
  pop _ _ _ hl c := inner_pop c hl
  warn _ _ c := c.of_regs rfl
  msgStart _ c := c.of_regs rfl
  unseen _ _ _ _ _ _ _ c := c.of_regs rfl

/-- What a sub-step that starts under a limit ends with: the same limits, the cursor still under the innermost. -/
structure Inside (s t : State) (b : Nat) (l : List Nat) : Prop where
  limits : t.limstk = b :: l
  bound : t.pos ≤ b
  len : t.len = s.len
  start : t.start = s.start
  records : s.out <+: t.out

/-- Every sub-step does, if it ends ok. -/
theorem inside_of_ok {x : D Unit} {l : List Nat} (hx : ∀ W, ClosedAll W → W _ x) (hl : s.limstk = b :: l)
    (hp : s.pos ≤ b) (ht : s.pos ≤ s.total) (hd : 0 < s.cfg.doc.limDepth) (h : x s = .ok () t) : Inside s t b l := by
  have hlim : t.limstk = b :: l := (hx _ balanced_closed _ _ _ h).trans hl
  have chain : ∀ {R}, ChainRule R → R s t := by
    intro R hR
    have hpost := hx _ hR.movesAll.closedAll s
    rwa [h] at hpost
  have hone : ∀ {v : State}, v.limstk = b :: l → (v.inner l.length).limstk = [b] := by
    intro v hv
    simp [State.inner, hv]
  have hstart : (s.inner l.length).CursorOk :=
    { pos_le_total := ht
      pos_le_limits := by rw [hone hl]; exact List.forall_mem_singleton.mpr hp
      nested := by rw [hone hl]; exact List.pairwise_singleton _ _
      depth := by rw [hone hl]; exact hd
      start_le_pos := Nat.zero_le _
      span_start_le := Nat.zero_le _ }
  have hend := chain (inner_chainRule l.length) hstart
  obtain ⟨-, hout, -, hlen, hbegin, -, -, -⟩ := chain advances_execRule.toChainRule
  exact ⟨hlim, hend.pos_le_limits b (by rw [hone hlim]; exact List.mem_singleton_self b), hlen, hbegin, hout⟩

/-! ### The container of HARQ_MAP -/

/-- The state in which the mode field of a container begins, after a header hook that passed over `k` bits. -/
def State.atMode (s : State) (w k : Nat) : State := ((s.opened w).setPos (s.bodyStart w + k)).setSeq .sbMode

/-- The header hook passes over `k` bits, or there is none. -/
def State.HdrPasses (s : State) (k : Nat) : Prop :=
  s.cfg.hooks.lookup (.harqHdr s.dir) = none ∧ k = 0 ∨
    s.cfg.hooks.lookup (.harqHdr s.dir) = some { prog := .skip (.lit k) none }

theorem container_header (hf : s.ExtFits w) (hk : k ≤ s.bodyBits w) (hh : s.HdrPasses k) :
    ∃ r, invokeHook topCall (.harqHdr s.dir) s.dir false (pure ()) [] ((s.opened w).setSeq .sbMode) =
      .ok r (((s.opened w).setSeq .sbMode).setPos (s.bodyStart w + k)) := by
  rcases hh with ⟨hnone, rfl⟩ | hsome
  · exact ⟨_, invokeHook_default (s := (s.opened w).setSeq .sbMode) hnone rfl⟩
  · have hb : s.bodyStart w + k ≤ ((s.opened w).setSeq .sbMode).effBound := by
      rw [State.setSeq_effBound, hf.opened_bound, State.bodyEnd]
      omega
    obtain ⟨r, hr⟩ := runHook_passes (s := (s.opened w).setSeq .sbMode) (call := topCall) (id := .harqHdr s.dir)
      (d := s.dir) (sb := false) (env := []) (k := k) (.inl rfl) hb
    exact ⟨r, (invokeHook_hook (s := (s.opened w).setSeq .sbMode) hsome).trans hr⟩

/-- The arm of HARQ_MAP is its container from the mode field on. -/
theorem selArm_harqMap (hf : s.ExtFits w) (hk : k ≤ s.bodyBits w) (hh : s.HdrPasses k) (o sub n : Nat) :
    selArm s.dir (some (.l2 .harqMap)) o sub n (s.opened w) =
      containerFromMode topCall s.dir (layoutOf s.dir) (s.atMode w k) := by
  obtain ⟨r, hr⟩ := container_header hf hk hh
  exact (bind_of_ok (s := (s.opened w).setSeq .sbMode) hr).trans rfl

/-- HARQ_MAP, where its container ends ok. -/
theorem exec_harqMap_ok (hw : s.l2LenBits = w) (hf : s.ExtFits w) (hk : k ≤ s.bodyBits w) (hh : s.HdrPasses k)
    (h : containerFromMode topCall s.dir (layoutOf s.dir) (s.atMode w k) = .ok () x)
    (hx : Inside (s.atMode w k) x (s.bodyEnd w) s.limstk) :
    exec .harqMap s = .next (x.closed (s.bodyEnd w) s.limstk).finish := by
  subst hw
  have hsel : rowSel .harqMap = some (.two, some (.l2 .harqMap)) := rfl
  rw [exec_of_rowSel hsel, ieOp_extRow_closed (lenBitsOf_two s _) hf ((selArm_harqMap hf hk hh _ _ _).trans h)
    hx.len hx.limits hx.bound]

/-- HARQ_MAP, where its container stops. -/
theorem exec_harqMap_raised {e : ErrKind} {p : Nat} (hw : s.l2LenBits = w) (hf : s.ExtFits w) (hk : k ≤ s.bodyBits w)
    (hh : s.HdrPasses k)
    (h : containerFromMode topCall s.dir (layoutOf s.dir) (s.atMode w k) = .error (.raised e p) x) :
    exec .harqMap s = .next (x.stop e p) := by
  subst hw
  have hsel : rowSel .harqMap = some (.two, some (.l2 .harqMap)) := rfl
  have hb : s.bodyStart s.l2LenBits ≤ s.effBound := Nat.le_trans (Nat.le_add_right _ _) hf.inside
  have harm := (selArm_harqMap hf hk hh s.pos s.subtypeAt (s.bodyBits s.l2LenBits)).trans h
  rw [exec_of_rowSel hsel, ieOp_extRow (lenBitsOf_two s _) hf.toExtLegal hb,
    callOp_of_raised (bracket_error (s := s.headed s.l2LenBits) hf.room hf.within_top harm)]

/-- The container of HARQ_MAP stays inside its limit. -/
theorem container_inside (hf : s.ExtFits w) (hk : k ≤ s.bodyBits w)
    (h : containerFromMode topCall s.dir (layoutOf s.dir) (s.atMode w k) = .ok () x) :
    Inside (s.atMode w k) x (s.bodyEnd w) s.limstk := by
  have hp : s.bodyStart w + k ≤ s.bodyEnd w := by unfold State.bodyEnd; omega
  have hx : ∀ W, ClosedAll W → W _ (containerFromMode topCall s.dir (layoutOf s.dir)) := fun W hW =>
    hW.containerFromMode' hW.topCall' s.dir fun _ => hW.bind' hW.getS' fun _ => hW.pure' _
  refine inside_of_ok (s := s.atMode w k) hx rfl hp ?_ (Nat.zero_lt_of_lt hf.room) h
  exact (hp.trans hf.inside).trans (effBound_le_total s)

/-! ### The mode field -/

/-- The mode field of the container, and the record it leaves. -/
def State.modeAt (s : State) (w k : Nat) : Nat := memRead s.mem (s.bodyStart w + k) 4

/-- The layout that the map of a direction gives it. -/
def State.layoutAt (s : State) (w k : Nat) : Option Layout :=
  (match s.dir with | .dl => s.cfg.maps.sbDl | .ul => s.cfg.maps.sbUl).lookup (s.modeAt w k)

/-- What follows the mode field starts after it, its record emitted. -/
def State.moded (s : State) (w k : Nat) : State :=
  ((s.atMode w k).setPos (s.bodyStart w + k + 4)).emit (s.fieldRec .sbMode (s.bodyStart w + k) 4)

theorem containerFromMode_moded (hr : 4 ≤ s.cfg.doc.readMaxBits) (hf : s.ExtFits w) (hk : k + 4 ≤ s.bodyBits w) :
    containerFromMode topCall s.dir (layoutOf s.dir) (s.atMode w k) =
      containerBody topCall s.dir (s.bodyStart w + k) (s.modeAt w k) (s.layoutAt w k) (s.moded w k) := by
  have hb : s.bodyStart w + k + 4 ≤ (s.opened w).effBound := by
    rw [hf.opened_bound, State.bodyEnd]
    omega
  exact (bind_of_ok (readField_ok (s := s.atMode w k) hr hb)).trans rfl

/-- A container depends on what selects the layout only for the mode at POS. -/
theorem containerFromMode_congr {f g : Nat → D (Option Layout)}
    (h : ∀ t, t.cfg = s.cfg → f (memRead s.mem s.pos 4) t = g (memRead s.mem s.pos 4) t) :
    containerFromMode call d f s = containerFromMode call d g s := by
  simp only [containerFromMode, getPos_bind]
  refine bind_congr_ok fun mode t hread => ?_
  obtain ⟨-, -, rfl, rfl⟩ := readField_eq_ok hread
  rw [bind_run, bind_run, h]
  rfl

/-! ### An unknown mode -/

theorem skipRest_moded (hf : s.ExtFits w) (hk : k + 4 ≤ s.bodyBits w) :
    skipRest (s.modeAt w k) (s.bodyStart w + k) (s.moded w k) =
      .ok ()
        ((((s.moded w k).setPos (s.bodyEnd w)).emit
            (passRec .reservedSkipped (s.bodyStart w + k + 4) (s.bodyEnd w - (s.bodyStart w + k + 4)))).addWarn
          { kind := .unknownVariant, off := s.bodyStart w + k, info := s.modeAt w k }) := by
  have hend : s.bodyStart w + k + 4 + (s.bodyEnd w - (s.bodyStart w + k + 4)) = s.bodyEnd w := by
    unfold State.bodyEnd
    omega
  have hskip := skipField_ok (s := s.moded w k) (id := .reservedSkipped) (n := s.bodyEnd w - (s.bodyStart w + k + 4))
    (hend.le.trans hf.opened_bound.ge)
  refine (bind_of_ok hskip).trans ?_
  rw [show (s.moded w k).pos = s.bodyStart w + k + 4 from rfl, hend]
  rfl

/-- HARQ_MAP of an unknown mode is skipped to its declared end. -/
theorem exec_harqMap_unknown (hw : s.l2LenBits = w) (hr : 4 ≤ s.cfg.doc.readMaxBits) (hf : s.ExtFits w)
    (hk : k + 4 ≤ s.bodyBits w) (hh : s.HdrPasses k) (hn : s.layoutAt w k = none) :
    exec .harqMap s =
      .next
        ((s.ieEnds (s.bodyEnd w)
          (s.extHeader w ++
            [s.fieldRec .sbMode (s.bodyStart w + k) 4,
             passRec .reservedSkipped (s.bodyStart w + k + 4) (s.bodyEnd w - (s.bodyStart w + k + 4))])).warned
          .unknownVariant (s.bodyStart w + k) (s.modeAt w k)) := by
  have hk' : k ≤ s.bodyBits w := Nat.le_of_add_right_le hk
  have hrun := containerFromMode_moded hr hf hk
  rw [hn] at hrun
  have hok := hrun.trans (skipRest_moded hf hk)
  rw [exec_harqMap_ok hw hf hk' hh hok ⟨rfl, Nat.le_refl _, rfl, rfl, ?_⟩, State.closed_of_eq (by rfl)]
  · simp [State.finish, State.setLimstk, State.moded, State.atMode, State.opened, State.headed, State.setPos, State.setSeq,
      State.emit, State.addWarn, State.ieEnds, State.warned]
  · exact (List.prefix_append _ _).trans (List.prefix_append _ _)

/-! ### A layout, and its row -/

theorem exec_layoutRow (h : (i, l) ∈ layoutRows) (s : State) : exec i s = ieOp (sbModeRow s.dir (some l)) s := by
  have hcases : ∀ p ∈ layoutRows, exec p.1 s = ieOp (sbModeRow s.dir (some p.2)) s := by
    simp only [layoutRows, List.forall_mem_cons]
    exact ⟨rfl, rfl, rfl, rfl, rfl, rfl, rfl, List.forall_mem_nil _⟩
  exact hcases (i, l) h

/-- The row of the layout, run at the mode field inside the limit, is the container. -/
theorem exec_layoutRow_inside (hl : s.inp.cqichIdWidth.toNat ≤ 9) (hi : (i, l) ∈ layoutRows) (hs : s.layoutAt w k = some l) :
    exec i
        { s with
          pos := s.bodyStart w + k, limstk := s.bodyEnd w :: s.limstk, out := s.out ++ s.extHeader w } =
      callOp (containerFromMode topCall s.dir (layoutOf s.dir)) (s.atMode w k) := by
  rw [exec_layoutRow hi, ieOp_eq (by exact hl)]
  refine callOp_congr (?_ : containerFromMode topCall s.dir (fun _ => pure (some l)) (s.atMode w k) = _)
  refine containerFromMode_congr fun t ht => ?_
  have hlook : layoutOf s.dir (s.modeAt w k) t = .ok (s.layoutAt w k) t := by
    rw [layoutOf_run, ht]
    rfl
  exact (hlook.trans (by rw [hs]; rfl)).symm

/-- What Close makes of the end of the row. -/
theorem finish_closed (hx : Inside (s.atMode w k) x (s.bodyEnd w) s.limstk) :
    (x.closed (s.bodyEnd w) s.limstk).finish =
      if x.pos = s.bodyEnd w then
        { x.finish with pos := s.bodyEnd w, limstk := s.limstk, consumed := s.bodyEnd w - s.start }
      else
        { x.finish with pos := s.bodyEnd w, limstk := s.limstk, consumed := s.bodyEnd w - s.start }.warned
          .lengthConsistency x.pos (s.bodyEnd w - x.pos) := by
  have hstart : x.start = s.start := hx.start
  split
  next h => simp [State.closed_of_eq h, State.finish, State.setLimstk, h, hstart]
  next h =>
    simp [State.closed_of_ne h, State.finish, State.setLimstk, State.setPos, State.addWarn, State.warned, hstart]

/-- Where the row of the layout ends ok HARQ_MAP closes after it, and where the row stops HARQ_MAP stops. -/
theorem exec_harqMap_row (hw : s.l2LenBits = w) (hf : s.ExtFits w) (hk : k ≤ s.bodyBits w) (hh : s.HdrPasses k)
    (hs : s.layoutAt w k = some l) (hi : (i, l) ∈ layoutRows)
    (hrow : exec i
      { s with pos := s.bodyStart w + k, limstk := s.bodyEnd w :: s.limstk, out := s.out ++ s.extHeader w } = .next u) :
    let t := { u with pos := s.bodyEnd w, limstk := s.limstk, consumed := s.bodyEnd w - s.start }
    (u.state = .done →
      exec .harqMap s =
        .next (if u.pos = s.bodyEnd w then t else t.warned .lengthConsistency u.pos (s.bodyEnd w - u.pos))) ∧
      (u.state = .stopped → exec .harqMap s = .next u) := by
  rw [exec_layoutRow_inside hf.legal hi hs] at hrow
  rcases callOp_eq_next hrow with ⟨x, hok, rfl⟩ | ⟨e, p, x, hstop, rfl⟩
  · have hx := container_inside hf hk hok
    refine ⟨fun _ => ?_, nofun⟩
    rw [exec_harqMap_ok hw hf hk hh hok hx, finish_closed hx]
    rfl
  · exact ⟨nofun, fun _ => exec_harqMap_raised hw hf hk hh hstop⟩

end Sys2Proof.Machine
end

section
/-! PROOFS. A counted container whose sub-bursts are one identifier each, with or without a trailer (43_sub_burst.md R223 to
R227): how many bits its parts take at most, and how many identifiers they emit. -/

namespace Sys2Proof.Machine

variable {α β : Type} {s t u x : State} {d : Dir} {w k n m c e : Nat} {l : Layout} {b emit : Bool}
  {call : HookCall → D Unit}

/-! ### Sub-steps that take at most so many bits and emit so many identifiers -/

/-- What such a sub-step does not write. -/
def State.frame (s : State) : Params × Inputs × Nat × List Nat × Session :=
  (s.cfg, s.inp, s.len, s.limstk, s.session)

theorem effBound_of_frame (h : t.frame = s.frame) : t.effBound = s.effBound := by
  simp only [State.frame, Prod.mk.injEq] at h
  obtain ⟨-, -, hlen, hlim, -⟩ := h
  rw [State.effBound, State.effBound, hlim, State.total, State.total, hlen]

theorem session_of_frame (h : t.frame = s.frame) : t.session = s.session := by
  simp only [State.frame, Prod.mk.injEq] at h
  obtain ⟨-, -, -, -, hsession⟩ := h
  exact hsession

/-- At most `n` bits further, `c` identifiers more. -/
structure Passed (n c : Nat) (s t : State) : Prop where
  frame : t.frame = s.frame
  pos_le : t.pos ≤ s.pos + n
  cids : t.cidCount = s.cidCount + c

/-- A sub-step that ends ok so. -/
def Passes (n c : Nat) (x : D α) (s : State) : Prop := ∃ a t, x s = .ok a t ∧ Passed n c s t

theorem Passed.refl (s : State) : Passed 0 0 s s := ⟨rfl, Nat.le_refl _, rfl⟩

theorem Passed.trans (h : Passed n c s t) (g : Passed m e t u) : Passed (n + m) (c + e) s u where
  frame := g.frame.trans h.frame
  pos_le := by
    have hs := h.pos_le
    have ht := g.pos_le
    omega
  cids := by rw [g.cids, h.cids, Nat.add_assoc]

theorem Passes.bind {x : D α} {f : α → D β} (hx : Passes n c x s)
    (hf : ∀ a t, x s = .ok a t → Passed n c s t → Passes m e (f a) t) : Passes (n + m) (c + e) (x >>= f) s := by
  obtain ⟨a, t, hrun, ht⟩ := hx
  obtain ⟨a', u, hrun', hu⟩ := hf a t hrun ht
  exact ⟨a', u, (bind_of_ok hrun).trans hrun', ht.trans hu⟩

/-- After a sub-step that ends ok in the state it began in. -/
theorem Passes.after {x : D α} {a : α} {f : α → D β} (hx : x s = .ok a s) (hf : Passes n c (f a) s) :
    Passes n c (x >>= f) s := by
  obtain ⟨a', u, hrun, hu⟩ := hf
  exact ⟨a', u, (bind_of_ok hx).trans hrun, hu⟩

theorem Passes.pure (a : α) (s : State) : Passes 0 0 (Pure.pure a : D α) s := ⟨a, s, rfl, .refl s⟩

/-- Turns that take at most `n` bits each and emit `c` identifiers. -/
theorem Passes.loopD {f : α → D α}
    (hf : ∀ a t, t.frame = s.frame → t.pos + n ≤ s.effBound → Passes n c (f a) t) (m : Nat) :
    ∀ a t, t.frame = s.frame → t.pos + m * n ≤ s.effBound → Passes (m * n) (m * c) (Machine.loopD f m a) t := by
  induction m with
  | zero =>
    intro a t _ _
    rw [Nat.zero_mul, Nat.zero_mul]
    exact .pure a t
  | succ m ih =>
    intro a t ht hb
    rw [Nat.succ_mul] at hb
    have hturn : Passes (n + m * n) (c + m * c) (f a >>= Machine.loopD f m) t :=
      (hf a t ht (by omega)).bind fun a' u _ hu =>
        ih a' u (hu.frame.trans ht) (by have := hu.pos_le; omega)
    rwa [Nat.add_comm n, Nat.add_comm c, ← Nat.succ_mul, ← Nat.succ_mul] at hturn

/-! ### The trailer -/

theorem cidCount_emit (s : State) (r : OutRec) :
    (s.emit r).cidCount = s.cidCount + if r.id = .cid then 1 else 0 := by
  rw [State.cidCount, State.emit, List.countP_append, List.countP_singleton]
  simp [State.cidCount]

theorem warnMismatch_passed (b : Bool) (o i : Nat) (s : State) : Passed 0 0 s (s.warnMismatch b o i) := by
  cases b
  · exact .refl s
  · exact ⟨rfl, Nat.le_refl _, rfl⟩

theorem verify16Op_passes (hr : 16 ≤ s.cfg.doc.readMaxBits) (hb : s.pos + 16 ≤ s.effBound) :
    Passes 16 0 verify16Op s := by
  have hspan : s.pos / 8 ≤ s.len := by
    have htotal := effBound_le_total s
    rw [State.total] at htotal
    omega
  refine ⟨_, _, verify16Op_ok hr (.inr hspan) hb, ?_⟩
  refine Passed.trans ?_ (warnMismatch_passed _ _ _ _)
  exact ⟨rfl, Nat.le_refl _, (cidCount_emit _ _).trans rfl⟩

theorem crcTrailer_passes (hr : 16 ≤ s.cfg.doc.readMaxBits) (hb : s.pos + 16 ≤ s.effBound) (present : Bool) :
    Passes 16 0 (crcTrailer present) s := by
  cases present
  · exact ⟨(), s, rfl, rfl, Nat.le_add_right _ _, rfl⟩
  · exact (verify16Op_passes hr hb).bind fun _ t _ _ => .pure () t

/-! ### A sub-burst -/

/-- The configuration of a layout whose sub-bursts are one identifier each. -/
structure State.OneCid (s : State) (d : Dir) (l : Layout) (b emit : Bool) : Prop where
  read : 16 ≤ s.cfg.doc.readMaxBits
  pre : s.cfg.hooks.lookup (.sbPre d l) = some { prog := .rcid 0 1 emit }
  layer : s.cfg.hooks.lookup (.sbLayer d l) = some { prog := .nop }
  post : s.cfg.hooks.lookup (.sbPost d l) = some { prog := .nop }
  crc : s.cfg.sbCrc.lookup (d, l, s.inp.includeCor2Changes) = some b

theorem State.OneCid.of_inputs (h : s.OneCid d l b emit) (hcfg : t.cfg = s.cfg) (hinp : t.inp = s.inp) :
    t.OneCid d l b emit := by
  constructor <;> rw [hcfg]
  exacts [h.read, h.pre, h.layer, h.post, by rw [hinp]; exact h.crc]

theorem State.OneCid.of_frame (h : s.OneCid d l b emit) (hf : t.frame = s.frame) : t.OneCid d l b emit := by
  simp only [State.frame, Prod.mk.injEq] at hf
  obtain ⟨hcfg, hinp, -, -, -⟩ := hf
  exact h.of_inputs hcfg hinp

theorem sbPart_nop {id : HookId} (h : s.cfg.hooks.lookup id = some { prog := .nop }) :
    sbPart call d id s = .ok (some []) s :=
  (invokeHook_hook h).trans rfl

theorem rcidField_passes (hr : 16 ≤ s.cfg.doc.readMaxBits) (hb : s.pos + 16 ≤ s.effBound) : Passes 16 1 rcidField s := by
  have hwidth := s.rcidWidth_le
  refine ⟨_, _, rcidField_ok hr (by omega), rfl, ?_, (cidCount_emit _ _).trans rfl⟩
  rw [State.emit_pos, State.setPos_pos]
  omega

/-- The PRE part is one identifier, so its hook keeps its contract. -/
theorem sbPre_passes (h : s.OneCid d l b emit) (hb : s.pos + 16 ≤ s.effBound) : Passes 16 1 (sbPre call d l) s := by
  obtain ⟨a, t, hrun, ht⟩ := rcidField_passes h.read hb
  have hprog : runProg call (.sbPre d l) d true (.rcid 0 1 emit) [] s = .ok [(0, a.1), (1, a.2)] t := by
    have hemit : rcidAs (emit || true) s = .ok a t := by rwa [Bool.or_true]
    exact (bind_of_ok hemit).trans rfl
  have hpart : sbPart call d (.sbPre d l) s = .ok (some []) t :=
    (invokeHook_hook h.pre).trans ((bind_of_ok hprog).trans rfl)
  refine ⟨(), t, ?_, ht⟩
  rw [sbPre, getS_bind, bind_of_ok hpart, getS_bind, ht.cids]
  simp

/-- The LAYER parts do nothing, however many. -/
theorem sbLayers_passes (h : s.OneCid d l b emit) (hb : s.pos ≤ s.effBound) : Passes 0 0 (sbLayers call d l) s := by
  refine .after (getS_run s) ?_
  cases isMimo l
  · exact .pure () s
  · exact Passes.loopD (n := 0) (c := 0)
      (fun _ t ht _ => .after (sbPart_nop (h.of_frame ht).layer) (.pure () t)) _ _ s rfl hb

theorem sbHasCrc_run (h : s.cfg.sbCrc.lookup (d, l, s.inp.includeCor2Changes) = some b) : sbHasCrc d l s = .ok b s := by
  rw [sbHasCrc, getS_bind, h, needParam_some]

theorem subBurst_passes (h : s.OneCid d l b emit) (hb : s.pos + 32 ≤ s.effBound) : Passes 32 1 (subBurst call d l) s := by
  refine (sbPre_passes h (by omega)).bind (m := 16) (e := 0) fun _ t _ ht => ?_
  have htb : t.pos + 16 ≤ t.effBound := by
    have hpos := ht.pos_le
    rw [effBound_of_frame ht.frame]
    omega
  have htc := h.of_frame ht.frame
  refine (sbLayers_passes htc (by omega)).bind (m := 16) (e := 0) fun _ u _ hu => ?_
  have hub : u.pos + 16 ≤ u.effBound := by
    have hpos := hu.pos_le
    rw [effBound_of_frame hu.frame]
    omega
  have huc := htc.of_frame hu.frame
  exact .after (sbPart_nop huc.post) (.after (sbHasCrc_run huc.crc) (crcTrailer_passes huc.read hub b))

/-! ### The container -/

theorem setSeq_passes {q : SeqState} {f : Unit → D β} (h : Passes n c (f ()) (s.setSeq q)) :
    Passes n c (setSeq q >>= f) s := by
  obtain ⟨a, t, hrun, ht⟩ := h
  exact ⟨a, t, hrun, ht.frame, ht.pos_le, ht.cids⟩

theorem readField_passes {id : FieldId} (hid : id ≠ .cid) (hr : w ≤ s.cfg.doc.readMaxBits) (hb : s.pos + w ≤ s.effBound) :
    Passes w 0 (readField id w) s :=
  ⟨_, _, readField_ok hr hb, rfl, Nat.le_refl _, (cidCount_emit _ _).trans (by rw [if_neg hid]; rfl)⟩

/-- The bits that the count, the sub-bursts it asks for and the trailer of the container take at most. -/
def State.countedBits (s : State) (w : Nat) : Nat := w + ((memRead s.mem s.pos w + 1) * 32 + 16)

theorem sbLoopRun_passes (h : s.OneCid d l b emit) (hw : s.cfg.nSubBurstBits = some w) (hr : w ≤ s.cfg.doc.readMaxBits)
    (hb : s.pos + (w + (memRead s.mem s.pos w + 1) * 32) ≤ s.effBound) :
    Passes (w + (memRead s.mem s.pos w + 1) * 32) (0 + (memRead s.mem s.pos w + 1) * 1) (sbLoopRun call d l .count) s := by
  refine .after (getS_run s) (.after (a := w) (by rw [hw, needParam_some]) ?_)
  refine (readField_passes (by decide) hr (by omega)).bind fun a t hread ht => ?_
  obtain ⟨-, -, rfl, -⟩ := readField_eq_ok hread
  refine Passes.loopD (fun _ u hu hub => ?_) _ _ t rfl ?_
  · refine subBurst_passes (h.of_frame (hu.trans ht.frame)) ?_
    rwa [effBound_of_frame hu]
  · have hpos := ht.pos_le
    rw [effBound_of_frame ht.frame]
    omega

theorem containerBody_passes {o mode : Nat} {present : Bool} (h : s.OneCid d l b emit)
    (hk : s.cfg.sbLoop.lookup (d, l) = some .count) (hw : s.cfg.nSubBurstBits = some w)
    (hr : w ≤ s.cfg.doc.readMaxBits) (hp : s.cfg.contCrc.lookup (d, l, s.inp.includeCor2Changes) = some present)
    (hb : s.pos + s.countedBits w ≤ s.effBound) :
    Passes (s.countedBits w) (memRead s.mem s.pos w + 1) (containerBody call d o mode (some l)) s := by
  rw [State.countedBits] at hb ⊢
  have hkind : sbLoopKind d l (s.setSeq .sbLoop) = .ok .count (s.setSeq .sbLoop) := by
    rw [sbLoopKind, getS_bind, State.setSeq_cfg, hk, needParam_some]
  have hrun : Passes (w + (memRead s.mem s.pos w + 1) * 32 + 16) (0 + (memRead s.mem s.pos w + 1) * 1 + 0)
      (containerBody call d o mode (some l)) s := by
    refine setSeq_passes (.after hkind ?_)
    refine (sbLoopRun_passes (s := s.setSeq .sbLoop) (h.of_frame rfl) hw hr (?_ : s.pos + _ ≤ s.effBound)).bind
      fun _ t _ ht => setSeq_passes ?_
    · exact Nat.le_trans (by simp only [State.setSeq_mem, State.setSeq_pos]; omega) hb
    have hf : t.frame = s.frame := ht.frame
    have hcrc : contHasCrc d l (t.setSeq .sbCrc) = .ok present (t.setSeq .sbCrc) := by
      simp only [State.frame, Prod.mk.injEq] at hf
      obtain ⟨hcfg, hinp, -, -, -⟩ := hf
      rw [contHasCrc, getS_bind, State.setSeq_cfg, State.setSeq_inp, hcfg, hinp, hp, needParam_some]
    refine .after hcrc (crcTrailer_passes (s := t.setSeq .sbCrc) (h.of_frame hf).read ?_ present)
    have hpos : t.pos ≤ s.pos + (w + (memRead s.mem s.pos w + 1) * 32) := ht.pos_le
    rw [State.setSeq_effBound, effBound_of_frame hf, State.setSeq_pos]
    omega
  rwa [Nat.zero_add, Nat.mul_one, Nat.add_zero, Nat.add_assoc] at hrun

/-! ### HARQ_MAP -/

/-- The header and the mode field are no identifiers. -/
theorem moded_cidCount (s : State) (w k : Nat) : (s.moded w k).cidCount = s.cidCount := by
  simp [State.cidCount, State.moded, State.atMode, State.opened, State.headed, State.setPos, State.setSeq, State.emit,
    State.extHeader, State.fieldRec]

/-- HARQ_MAP with such a container ends ok on its declared end, an identifier emitted for each sub-burst. -/
theorem exec_harqMap_counted {present : Bool} (hw : s.l2LenBits = w) (hr : 4 ≤ s.cfg.doc.readMaxBits) (hf : s.ExtFits w)
    (hk : k + 4 ≤ s.bodyBits w) (hh : s.HdrPasses k) (hs : s.layoutAt w k = some l) (h : s.OneCid s.dir l b emit)
    (hloop : s.cfg.sbLoop.lookup (s.dir, l) = some .count) (hn : s.cfg.nSubBurstBits = some n)
    (hread : n ≤ s.cfg.doc.readMaxBits)
    (hp : s.cfg.contCrc.lookup (s.dir, l, s.inp.includeCor2Changes) = some present)
    (hb : k + 4 + (s.moded w k).countedBits n ≤ s.bodyBits w) :
    ∃ t, exec .harqMap s = .next t ∧ t.state = .done ∧ t.pos = s.bodyEnd w ∧ t.limstk = s.limstk ∧
      t.session = s.session ∧
      (t.out.drop s.out.length).countP (fun r => decide (r.id = .cid)) =
        memRead s.mem (s.bodyStart w + k + 4) n + 1 := by
  have hk' : k ≤ s.bodyBits w := Nat.le_of_add_right_le hk
  have hbound : (s.moded w k).pos + (s.moded w k).countedBits n ≤ (s.moded w k).effBound := by
    refine Nat.le_trans ?_ hf.opened_bound.ge
    change s.bodyStart w + k + 4 + _ ≤ s.bodyStart w + s.bodyBits w
    omega
  obtain ⟨_, x, hrun, hx⟩ := containerBody_passes (s := s.moded w k) (call := topCall) (o := s.bodyStart w + k)
    (mode := s.modeAt w k) (h.of_inputs rfl rfl) hloop hn hread hp hbound
  have hok := containerFromMode_moded hr hf hk
  rw [hs, hrun] at hok
  have hin := container_inside hf hk' hok
  obtain ⟨hpos, hlim, hses, hout⟩ := closed_frame x (s.bodyEnd w) s.limstk
  have hsession : x.session = s.session := session_of_frame (s := s.moded w k) hx.frame
  refine ⟨_, exec_harqMap_ok hw hf hk' hh hok hin, rfl, hpos, hlim, hses.trans hsession, ?_⟩
  obtain ⟨rs, hrs⟩ := hin.records
  have hafter : x.out = s.out ++ (s.extHeader w ++ rs) := by
    rw [← hrs]
    exact List.append_assoc _ _ _
  have hcids : x.cidCount = s.cidCount + (memRead s.mem (s.bodyStart w + k + 4) n + 1) :=
    hx.cids.trans (congrArg (· + _) (moded_cidCount s w k))
  rw [show (x.closed (s.bodyEnd w) s.limstk).finish.out = x.out from hout, hafter, List.drop_left]
  rw [State.cidCount, hafter, List.countP_append] at hcids
  exact Nat.add_left_cancel hcids

/-- Settles O37. -/
theorem harqMapHoldsAContainer : Obligations.HarqMapHoldsAContainer := by
  intro s k hdoc hf hk hook hh o mode sel
  have hw : s.l2LenBits = 8 := by rw [State.l2LenBits, hdoc]
  have hr : s.cfg.doc.readMaxBits = 32 := by rw [hdoc]
  have hk' : k ≤ s.bodyBits 8 := Nat.le_of_add_right_le hk
  refine ⟨fun hn => exec_harqMap_unknown hw (by omega) hf hk hh hn, ?_,
    fun i l u hs hi hrow => exec_harqMap_row hw hf hk' hh hs hi hrow⟩
  intro l n b c emit hs hloop hn hmax hcrc hp hpre hlayer hpost hb
  refine exec_harqMap_counted hw (by omega) hf hk hh hs ⟨by omega, hpre, hlayer, hpost, hcrc⟩ hloop hn (by omega) hp ?_
  change k + 4 + (n + ((memRead s.mem (o + 4) n + 1) * 32 + 16)) ≤ s.bodyBits 8
  omega

end Sys2Proof.Machine
end

section
/-! PROOFS. The row of a sub-burst mode run by itself (43_sub_burst.md R220, R222, R224): its mode field, and the rest of
the region where the mode is unknown. -/

namespace Sys2Proof.Machine

variable {i : Instr} {s : State} {d : Dir} {p q : Nat} {rs rs' : List OutRec}

/-! ### Bits passed, and records of them -/

/-- A state whose cursor has gone on to `p`, with the records `rs` emitted on the way. -/
def State.moved (s : State) (p : Nat) (rs : List OutRec) : State := { s with pos := p, out := s.out ++ rs }

@[simp] theorem moved_pos : (s.moved p rs).pos = p := rfl
@[simp] theorem moved_effBound : (s.moved p rs).effBound = s.effBound := rfl

theorem moved_moved : (s.moved p rs).moved q rs' = s.moved q (rs ++ rs') := by
  simp [State.moved]

theorem moved_self : s.moved s.pos [] = s := by
  simp [State.moved]

theorem readField_moved {id : FieldId} {w : Nat} (hr : w ≤ s.cfg.doc.readMaxBits) (hb : s.pos + w ≤ s.effBound) :
    readField id w s = .ok (memRead s.mem s.pos w) (s.moved (s.pos + w) [s.fieldRec id s.pos w]) :=
  readField_ok hr hb

/-- Where no limit lies past the buffer, what is left of the region is passed over whole. -/
theorem skipField_drem (id : FieldId) (hlim : ∀ b ∈ s.limstk.head?, b ≤ s.total) (hb : s.pos ≤ s.effBound) :
    skipField id s.drem s = .ok () (s.moved s.effBound [passRec id s.pos (s.effBound - s.pos)]) := by
  have hend : s.pos + (s.effBound - s.pos) = s.effBound := Nat.add_sub_cancel' hb
  rw [drem_eq_rem hlim, skipField_ok hend.le, hend]
  rfl

/-! ### The mode field of a row -/

/-- The state of the row of a mode whose mode field has been read. -/
def State.modeRead (s : State) : State :=
  (s.startIe.setSeq .sbMode).moved (s.pos + 4) [s.fieldRec .sbMode s.pos 4]

theorem ieOp_sbModeRow (hl : s.inp.cqichIdWidth.toNat ≤ 9) (hr : 4 ≤ s.cfg.doc.readMaxBits)
    (hb : s.pos + 4 ≤ s.effBound) (sel : Option Layout) :
    ieOp (sbModeRow d sel) s =
      callOp (containerBody topCall d s.pos (memRead s.mem s.pos 4) sel) s.modeRead := by
  rw [ieOp_eq hl]
  refine callOp_congr ((setSeq_bind _ _ _).trans ((getPos_bind _ _).trans ?_))
  exact bind_of_ok (readField_moved (s := s.startIe.setSeq .sbMode) hr hb)

/-! ### An unknown mode -/

theorem exec_unknownModeRow (hi : i ∈ unknownModeRows) (s : State) : exec i s = ieOp (sbModeRow s.dir none) s := by
  have hcases : ∀ i ∈ unknownModeRows, exec i s = ieOp (sbModeRow s.dir none) s := by
    simp only [unknownModeRows, List.forall_mem_cons]
    exact ⟨rfl, rfl, rfl, rfl, rfl, rfl, rfl, rfl, rfl, List.forall_mem_nil _⟩
  exact hcases i hi

theorem skipRest_ok (hlim : ∀ b ∈ s.limstk.head?, b ≤ s.total) (hb : s.pos ≤ s.effBound) (mode o : Nat) :
    skipRest mode o s =
      .ok ()
        ((s.moved s.effBound [passRec .reservedSkipped s.pos (s.effBound - s.pos)]).addWarn
          { kind := .unknownVariant, off := o, info := mode }) := by
  rw [skipRest, getS_bind, bind_of_ok (skipField_drem _ hlim hb), warnRec_run]

/-- Settles O34. -/
theorem unknownModesAreSkipped : Obligations.UnknownModesAreSkipped := by
  intro i hi s hr hl hb hlim
  have hskip := skipRest_ok (s := s.modeRead) hlim hb (memRead s.mem s.pos 4) s.pos
  rw [exec_unknownModeRow hi, ieOp_sbModeRow hl hr hb, containerBody, callOp_of_ok hskip, State.modeRead, moved_moved]
  rfl

end Sys2Proof.Machine
end

section
/-! PROOFS. Containers without trailers, exactly (43_sub_burst.md R223, R225, R226): sub-bursts of one 16-bit identifier
until the declared length is used up, and layouts without hooks, whose parts are opaque bodies. -/

namespace Sys2Proof.Machine

variable {α : Type} {i : Instr} {s t : State} {d : Dir} {l : Layout} {k : LoopKind} {n p w : Nat} {r rs : List OutRec}
  {emit : Bool} {call : HookCall → D Unit}

/-! ### Loops -/

/-- Turns that each emit the same records where the cursor stands. -/
theorem loopD_moved {f : Unit → D Unit} (hf : ∀ rs, f () (s.moved p rs) = .ok () (s.moved p (rs ++ r))) (n : Nat) :
    ∀ rs, loopD f n () (s.moved p rs) = .ok () (s.moved p (rs ++ (List.replicate n r).flatten)) := by
  induction n with
  | zero =>
    intro rs
    rw [List.replicate_zero, List.flatten_nil, List.append_nil, loopD_zero, pure_run]
  | succ n ih =>
    intro rs
    rw [loopD_succ, bind_of_ok (hf rs), ih, List.append_assoc, List.replicate_succ, List.flatten_cons]

theorem whileDremD_done {f : α → D α} {a : α} (h : s.drem = 0) : whileDremD f (n + 1) a s = .ok a s := by
  rw [whileDremD, getS_bind, if_pos h, pure_run]

theorem whileDremD_turn {f : α → D α} {a b : α} (h : s.drem ≠ 0) (hf : f a s = .ok b t) (hp : s.pos < t.pos) :
    whileDremD f (n + 1) a s = whileDremD f n b t := by
  rw [whileDremD, getS_bind, if_neg h, bind_of_ok hf, getS_bind, if_neg (Nat.not_le.mpr hp)]

/-! ### The PRE part and the trailer -/

/-- The PRE part ends as its hook does, which issued an identifier, or as the default body. -/
theorem sbPre_of_part {r : HookRets} (hpart : sbPart call d (.sbPre d l) s = .ok r t)
    (hc : r.isSome = true → s.cidCount < t.cidCount) : sbPre call d l s = .ok () t := by
  have hkept : (r.isSome && decide (t.cidCount ≤ s.cidCount)) = false := by
    cases r with
    | none => rfl
    | some a => exact decide_eq_false (Nat.not_le.mpr (hc rfl))
  rw [sbPre, getS_bind, bind_of_ok hpart, getS_bind, hkept, whenD_false, pure_run]

/-- A PRE hook of one RCID, whatever it asks to be emitted. -/
theorem runProg_rcid {id : HookId} {a : Nat × Nat} (h : rcidField s = .ok a t) :
    runProg call id d true (.rcid 0 1 emit) [] s = .ok [(0, a.1), (1, a.2)] t := by
  have hemit : rcidAs (emit || true) s = .ok a t := by rwa [Bool.or_true]
  exact (bind_of_ok hemit).trans rfl

/-- The end of a sub-burst without a trailer. -/
theorem subBurst_of_parts {u v : State} {r : HookRets} (hpre : sbPre call d l s = .ok () t)
    (hlayers : sbLayers call d l t = .ok () u) (hpost : sbPart call d (.sbPost d l) u = .ok r v)
    (hcrc : v.cfg.sbCrc.lookup (d, l, v.inp.includeCor2Changes) = some false) : subBurst call d l s = .ok () v := by
  rw [subBurst, bind_of_ok hpre, bind_of_ok hlayers, bind_of_ok hpost, bind_of_ok (sbHasCrc_run hcrc)]
  rfl

/-! ### A row without trailers -/

theorem sbLoopKind_run (h : s.cfg.sbLoop.lookup (d, l) = some k) : sbLoopKind d l s = .ok k s := by
  rw [sbLoopKind, getS_bind, h, needParam_some]

theorem contHasCrc_run {b : Bool} (h : s.cfg.contCrc.lookup (d, l, s.inp.includeCor2Changes) = some b) :
    contHasCrc d l s = .ok b s := by
  rw [contHasCrc, getS_bind, h, needParam_some]

/-- The row of a layout is its sub-bursts between the mode field and the end. -/
theorem exec_layoutRow_of_loop (hi : (i, l) ∈ layoutRows) (hl : s.inp.cqichIdWidth.toNat ≤ 9)
    (hr : 4 ≤ s.cfg.doc.readMaxBits) (hb : s.pos + 4 ≤ s.effBound) (hk : s.cfg.sbLoop.lookup (s.dir, l) = some k)
    (hp : s.cfg.contCrc.lookup (s.dir, l, s.inp.includeCor2Changes) = some false)
    (hrun : sbLoopRun topCall s.dir l k (s.modeRead.setSeq .sbLoop) =
      .ok () ((s.modeRead.setSeq .sbLoop).moved p rs)) :
    exec i s = .next (s.ieEnds p (s.fieldRec .sbMode s.pos 4 :: rs)) := by
  have hbody : containerBody topCall s.dir s.pos (memRead s.mem s.pos 4) (some l) s.modeRead =
      .ok () (((s.modeRead.setSeq .sbLoop).moved p rs).setSeq .sbCrc) := by
    rw [containerBody, setSeq_bind, bind_of_ok (sbLoopKind_run (s := s.modeRead.setSeq .sbLoop) hk), bind_of_ok hrun,
      setSeq_bind, bind_of_ok (contHasCrc_run (s := ((s.modeRead.setSeq .sbLoop).moved p rs).setSeq .sbCrc) hp)]
    rfl
  rw [exec_layoutRow hi, ieOp_sbModeRow hl hr hb, callOp_of_ok hbody]
  simp [State.modeRead, State.moved, State.setSeq, State.finish, State.ieEnds, State.startIe]

/-! ### Sub-bursts of one 16-bit identifier -/

theorem rcidField_normal16 (hr : 16 ≤ s.cfg.doc.readMaxBits) (hc : s.session.cidType = .normal16)
    (hb : s.pos + 16 ≤ s.effBound) :
    rcidField s = .ok (memRead s.mem s.pos 16, 16) (s.moved (s.pos + 16) [s.fieldRec .cid s.pos 16]) := by
  have hw : s.rcidWidth = 16 := if_pos hc
  have hv : s.rcidValue = memRead s.mem s.pos 16 := if_pos hc
  rw [rcidField_ok hr (hw.symm ▸ hb), hw, hv]
  rfl

theorem subBurst_normal16 (h : s.OneCid d l false emit) (hc : s.session.cidType = .normal16)
    (hb : s.pos + 16 ≤ s.effBound) :
    subBurst call d l s = .ok () (s.moved (s.pos + 16) [s.fieldRec .cid s.pos 16]) := by
  have hcid := rcidField_normal16 h.read hc hb
  let t := s.moved (s.pos + 16) [s.fieldRec .cid s.pos 16]
  have hpart : sbPart call d (.sbPre d l) s = .ok (some []) t :=
    (invokeHook_hook h.pre).trans ((bind_of_ok (runProg_rcid hcid)).trans rfl)
  have hlayers : sbLayers call d l t = .ok () t := by
    rw [sbLayers, getS_bind]
    cases isMimo l
    · rfl
    · have hturn : ∀ rs, (sbPart call d (.sbLayer d l) >>= fun _ => pure ()) (s.moved (s.pos + 16) rs) =
          .ok () (s.moved (s.pos + 16) (rs ++ [])) := fun rs => by
        rw [List.append_nil]
        exact bind_of_ok (sbPart_nop h.layer)
      exact (loopD_moved hturn _ _).trans (by rw [List.flatten_replicate_nil, List.append_nil])
  refine subBurst_of_parts (sbPre_of_part hpart fun _ => ?_) hlayers (sbPart_nop h.post) h.crc
  have hcount : t.cidCount = s.cidCount + 1 := cidCount_emit (s.setPos (s.pos + 16)) _
  omega

/-- As many turns as identifiers fill the region. -/
theorem whileDremD_normal16 (m : Nat) (h : s.OneCid d l false emit) (hc : s.session.cidType = .normal16)
    (hlim : ∀ b ∈ s.limstk.head?, b ≤ s.total) (hb : s.effBound = s.pos + 16 * n) :
    whileDremD (fun _ => subBurst call d l) (n + m + 1) () s =
      .ok () (s.moved s.effBound ((List.range n).map fun j => s.fieldRec .cid (s.pos + 16 * j) 16)) := by
  induction n generalizing s with
  | zero =>
    have hdrem := drem_eq_rem hlim
    rw [Nat.zero_add, whileDremD_done (by omega), hb]
    exact congrArg _ moved_self.symm
  | succ n ih =>
    have hdrem := drem_eq_rem hlim
    let t := s.moved (s.pos + 16) [s.fieldRec .cid s.pos 16]
    have htb : t.effBound = t.pos + 16 * n := by rw [moved_effBound, moved_pos, hb]; omega
    have hfuel : n + 1 + m + 1 = n + m + 1 + 1 := by omega
    rw [hfuel, whileDremD_turn (by omega) (subBurst_normal16 h hc (by omega)) (Nat.lt_add_of_pos_right (by omega)),
      ih (s := t) (h.of_frame rfl) hc hlim htb, moved_moved, List.range_succ_eq_map, moved_effBound]
    simp [t, State.fieldRec, State.moved, Nat.mul_add, Nat.add_assoc, Nat.add_comm 16]

/-! ### Layouts without hooks -/

/-- The configuration of a layout that has no hook and no trailer, and a region that ends in the buffer. -/
structure State.NoHooks (s : State) (d : Dir) (l : Layout) : Prop where
  hooks : ∀ id ∈ [HookId.sbPre d l, .sbLayer d l, .sbPost d l], s.cfg.hooks.lookup id = none
  crc : s.cfg.sbCrc.lookup (d, l, s.inp.includeCor2Changes) = some false
  limits : ∀ b ∈ s.limstk.head?, b ≤ s.total

/-- The record of an opaque part that begins at `o`: all that is left of the region. -/
def State.partRec (s : State) (id : HookId) (o : Nat) : OutRec := passRec (.body id) o (s.effBound - o)

/-- The records of a sub-burst of opaque parts that begins at `o`. -/
def State.burstRecs (s : State) (d : Dir) (l : Layout) (o : Nat) : List OutRec :=
  s.partRec (.sbPre d l) o ::
    (List.replicate (if isMimo l = true then s.session.nLayer.toNat else 0) (s.partRec (.sbLayer d l) s.effBound) ++
      [s.partRec (.sbPost d l) s.effBound])

theorem sbPart_opaque {id : HookId} (hn : s.cfg.hooks.lookup id = none) (hlim : ∀ b ∈ s.limstk.head?, b ≤ s.total)
    (hb : s.pos ≤ s.effBound) : sbPart call d id s = .ok none (s.moved s.effBound [s.partRec id s.pos]) :=
  invokeHook_default hn ((getS_bind _ _).trans (skipField_drem _ hlim hb))

theorem sbLayers_opaque (h : s.NoHooks d l) (rs : List OutRec) :
    sbLayers call d l (s.moved s.effBound rs) =
      .ok ()
        (s.moved s.effBound
          (rs ++
            List.replicate (if isMimo l = true then s.session.nLayer.toNat else 0)
              (s.partRec (.sbLayer d l) s.effBound))) := by
  rw [sbLayers, getS_bind]
  cases isMimo l
  · exact congrArg (fun rs => EStateM.Result.ok () (s.moved s.effBound rs)) (List.append_nil rs).symm
  · have hturn : ∀ rs, (sbPart call d (.sbLayer d l) >>= fun _ => pure ()) (s.moved s.effBound rs) =
        .ok () (s.moved s.effBound (rs ++ [s.partRec (.sbLayer d l) s.effBound])) := fun rs => by
      have hpart := sbPart_opaque (s := s.moved s.effBound rs) (call := call) (d := d) (h.hooks (.sbLayer d l) (by simp))
        h.limits le_rfl
      rw [bind_of_ok hpart, moved_moved]
      rfl
    exact (loopD_moved hturn _ _).trans (by rw [List.flatten_replicate_singleton]; rfl)

theorem subBurst_opaque (h : s.NoHooks d l) (hb : s.pos ≤ s.effBound) :
    subBurst call d l s = .ok () (s.moved s.effBound (s.burstRecs d l s.pos)) := by
  have hpre := sbPart_opaque (call := call) (d := d) (h.hooks (.sbPre d l) (by simp)) h.limits hb
  have hpost := fun rs => sbPart_opaque (s := s.moved s.effBound rs) (call := call) (d := d)
    (h.hooks (.sbPost d l) (by simp)) h.limits le_rfl
  rw [subBurst_of_parts (sbPre_of_part hpre nofun) (sbLayers_opaque h _) (hpost _) h.crc, moved_moved]
  rfl

/-- Under `Length` the first PRE part uses the whole of the region up. -/
theorem sbLoopRun_length_opaque (h : s.NoHooks d l) (hb : s.pos ≤ s.effBound) :
    sbLoopRun call d l .length s =
      .ok () (s.moved s.effBound (if s.pos = s.effBound then [] else s.burstRecs d l s.pos)) := by
  have hdrem := drem_eq_rem h.limits
  rw [sbLoopRun, getS_bind]
  change whileDremD _ (s.rem + 1 + 1) () s = _
  split
  next he =>
    rw [whileDremD_done (by omega), ← he, moved_self]
  next hne =>
    have hempty : (s.moved s.effBound (s.burstRecs d l s.pos)).drem = 0 := by
      rw [drem_eq_rem (s := s.moved s.effBound _) h.limits]
      exact Nat.sub_self _
    rw [whileDremD_turn (by omega) (subBurst_opaque h hb) (by rw [moved_pos]; omega), whileDremD_done hempty]

/-- Under `Count` the further sub-bursts hold no bits. -/
theorem sbLoopRun_count_opaque (h : s.NoHooks d l) (hw : s.cfg.nSubBurstBits = some w)
    (hr : w ≤ s.cfg.doc.readMaxBits) (hb : s.pos + w ≤ s.effBound) :
    sbLoopRun call d l .count s =
      .ok ()
        (s.moved s.effBound
          (s.fieldRec .nSubBurst s.pos w :: (s.burstRecs d l (s.pos + w) ++
            (List.replicate (memRead s.mem s.pos w) (s.burstRecs d l s.effBound)).flatten))) := by
  have hfirst := subBurst_opaque (s := s.moved (s.pos + w) [s.fieldRec .nSubBurst s.pos w]) (call := call)
    ⟨h.hooks, h.crc, h.limits⟩ hb
  have hturn : ∀ rs, subBurst call d l (s.moved s.effBound rs) =
      .ok () (s.moved s.effBound (rs ++ s.burstRecs d l s.effBound)) := fun rs => by
    rw [subBurst_opaque (s := s.moved s.effBound rs) ⟨h.hooks, h.crc, h.limits⟩ le_rfl, moved_effBound, moved_moved]
    rfl
  rw [sbLoopRun, getS_bind]
  change (needParam s.cfg.nSubBurstBits .nSubBurstBits >>= _) s = _
  rw [hw, bind_of_ok (needParam_some w .nSubBurstBits s), bind_of_ok (readField_moved hr hb), loopD_succ,
    bind_of_ok hfirst, moved_effBound, moved_moved]
  exact loopD_moved hturn _ _

/-- Settles O36. -/
theorem subBurstsUntilTheLength : Obligations.SubBurstsUntilTheLength := by
  rintro ⟨i, l⟩ hi s hl hlim hb hcrc hcont mode loop hook part burst
  refine ⟨fun n emit hr hk hpre hlayer hpost hcid hend => ?_, fun hr hnone => ?_⟩
  · refine exec_layoutRow_of_loop hi hl (by omega) hb hk hcont ?_
    let v := s.modeRead.setSeq .sbLoop
    have hbound : v.effBound = v.pos + 16 * n := hend
    have hturns : v.turnBound = n + (15 * n + 1) + 1 := by
      rw [State.turnBound, State.rem, hbound]
      omega
    rw [sbLoopRun, getS_bind]
    change whileDremD _ v.turnBound () v = _
    rw [hturns]
    exact whileDremD_normal16 _ ⟨hr, hpre, hlayer, hpost, hcrc⟩ hcid hlim hbound
  · have hopaque : (s.modeRead.setSeq .sbLoop).NoHooks s.dir l := ⟨hnone, hcrc, hlim⟩
    exact ⟨fun hk => exec_layoutRow_of_loop hi hl hr hb hk hcont (sbLoopRun_length_opaque hopaque hb),
      fun w hk hw hwr hwb => exec_layoutRow_of_loop hi hl hr hb hk hcont (sbLoopRun_count_opaque hopaque hw hwr hwb)⟩

end Sys2Proof.Machine
end

section
/-! PROOFS. A counted container whose PRE hook is one identifier, or one and a control that writes `n_layer`, and whose
LAYER hook is four bits (43_sub_burst.md R223, R225 to R227, R229): the kinds of the records that its parts emit, in
order. -/

namespace Sys2Proof.Machine

variable {α β : Type} {i : Instr} {s t u : State} {d : Dir} {l : Layout} {b c : Bool} {v : BitVec 2} {n m w : Nat}
  {ids ids' : List FieldId} {call : HookCall → D Unit}

/-! ### Sub-steps that emit records of given kinds -/

/-- A state without its `n_layer`. -/
def State.unlayered (s : State) : State := s.setSession { s.session with nLayer := 0 }

/-- What a sub-burst does not write: the frame but for `n_layer`, and `ERR`. -/
def State.burstFrame (s : State) : (Params × Inputs × Nat × List Nat × Session) × BitVec 3 :=
  (s.unlayered.frame, s.err)

/-- At most `n` bits further, records of the kinds `ids` more, and `n_layer` is `v`. -/
structure Emitted (n : Nat) (ids : List FieldId) (v : BitVec 2) (s t : State) : Prop where
  frame : t.burstFrame = s.burstFrame
  layers : t.session.nLayer = v
  pos_le : t.pos ≤ s.pos + n
  records : ∃ rs, t.out = s.out ++ rs ∧ rs.map OutRec.id = ids

/-- A sub-step that ends ok so. -/
def Emits (n : Nat) (ids : List FieldId) (v : BitVec 2) (x : D α) (s : State) : Prop :=
  ∃ a t, x s = .ok a t ∧ Emitted n ids v s t

theorem cfg_of_burstFrame (h : t.burstFrame = s.burstFrame) : t.cfg = s.cfg ∧ t.inp = s.inp ∧ t.limstk = s.limstk := by
  have hframe : t.unlayered.frame = s.unlayered.frame := congrArg Prod.fst h
  simp only [State.frame, Prod.mk.injEq] at hframe
  obtain ⟨hcfg, hinp, -, hlim, -⟩ := hframe
  exact ⟨hcfg, hinp, hlim⟩

theorem effBound_of_burstFrame (h : t.burstFrame = s.burstFrame) : t.effBound = s.effBound :=
  effBound_of_frame (s := s.unlayered) (t := t.unlayered) (congrArg Prod.fst h)

theorem Emitted.session (h : Emitted n ids v s t) : t.session = { s.session with nLayer := v } := by
  have hrest : { t.session with nLayer := 0 } = ({ s.session with nLayer := 0 } : Session) :=
    session_of_frame (s := s.unlayered) (t := t.unlayered) (congrArg Prod.fst h.frame)
  calc t.session = { ({ t.session with nLayer := 0 } : Session) with nLayer := t.session.nLayer } := rfl
    _ = { s.session with nLayer := v } := by rw [hrest, h.layers]

theorem countP_id (rs : List OutRec) (id : FieldId) :
    rs.countP (fun r => decide (r.id = id)) = (rs.map OutRec.id).count id := by
  rw [List.count, List.countP_map]
  rfl

/-- How many of the records are of one kind. -/
theorem Emitted.countP (h : Emitted n ids v s t) (id : FieldId) :
    (t.out.drop s.out.length).countP (fun r => decide (r.id = id)) = ids.count id := by
  obtain ⟨rs, hout, rfl⟩ := h.records
  rw [hout, List.drop_left, countP_id]

theorem Emitted.cidCount (h : Emitted n ids v s t) : t.cidCount = s.cidCount + ids.count .cid := by
  obtain ⟨rs, hout, rfl⟩ := h.records
  rw [State.cidCount, State.cidCount, hout, List.countP_append, countP_id rs]

theorem Emitted.refl (h : s.session.nLayer = v) : Emitted 0 [] v s s :=
  ⟨rfl, h, Nat.le_refl _, [], (List.append_nil _).symm, rfl⟩

theorem Emitted.trans {v' : BitVec 2} (h : Emitted n ids v' s t) (g : Emitted m ids' v t u) :
    Emitted (n + m) (ids ++ ids') v s u where
  frame := g.frame.trans h.frame
  layers := g.layers
  pos_le := by
    have hs := h.pos_le
    have ht := g.pos_le
    omega
  records := by
    obtain ⟨rs, hrs, rfl⟩ := h.records
    obtain ⟨rs', hrs', rfl⟩ := g.records
    exact ⟨rs ++ rs', by rw [hrs', hrs, List.append_assoc], List.map_append⟩

theorem Emits.bind {v' : BitVec 2} {x : D α} {f : α → D β} (hx : Emits n ids v' x s)
    (hf : ∀ a t, Emitted n ids v' s t → Emits m ids' v (f a) t) : Emits (n + m) (ids ++ ids') v (x >>= f) s := by
  obtain ⟨a, t, hrun, ht⟩ := hx
  obtain ⟨a', u, hrun', hu⟩ := hf a t ht
  exact ⟨a', u, (bind_of_ok hrun).trans hrun', ht.trans hu⟩

/-- After a sub-step that ends ok in the state it began in. -/
theorem Emits.after {x : D α} {a : α} {f : α → D β} (hx : x s = .ok a s) (hf : Emits n ids v (f a) s) :
    Emits n ids v (x >>= f) s := by
  obtain ⟨a', u, hrun, hu⟩ := hf
  exact ⟨a', u, (bind_of_ok hx).trans hrun, hu⟩

theorem Emits.pure (a : α) (h : s.session.nLayer = v) : Emits 0 [] v (Pure.pure a : D α) s := ⟨a, s, rfl, .refl h⟩

theorem Emits.mono {x : D α} (h : Emits n ids v x s) (hn : n ≤ m) : Emits m ids v x s := by
  obtain ⟨a, t, hrun, ht⟩ := h
  exact ⟨a, t, hrun, { ht with pos_le := ht.pos_le.trans (by omega) }⟩

/-- Turns that each take at most `n` bits and emit records of the same kinds. -/
theorem Emits.loopD {f : α → D α}
    (hf : ∀ a t, t.burstFrame = s.burstFrame → t.session.nLayer = v → t.pos + n ≤ s.effBound → Emits n ids v (f a) t)
    (m : Nat) :
    ∀ a t, t.burstFrame = s.burstFrame → t.session.nLayer = v → t.pos + n * m ≤ s.effBound →
      Emits (n * m) (List.replicate m ids).flatten v (Machine.loopD f m a) t := by
  induction m with
  | zero => exact fun a t _ hv _ => .pure a hv
  | succ m ih =>
    intro a t ht hv hb
    rw [Nat.mul_succ] at hb
    rw [Nat.mul_succ, Nat.add_comm, List.replicate_succ, List.flatten_cons]
    exact (hf a t ht hv (by omega)).bind fun a' u hu =>
      ih a' u (hu.frame.trans ht) hu.layers (by have := hu.pos_le; omega)

/-! ### The parts of a sub-burst -/

/-- The configuration of such a layout; `v` is the `n_layer` that the PRE part leaves. -/
structure State.Layered (s : State) (d : Dir) (l : Layout) (b : Bool) (v : BitVec 2) : Prop where
  read : 16 ≤ s.cfg.doc.readMaxBits
  pre : ∃ emit,
    s.cfg.hooks.lookup (.sbPre d l) = some { prog := .rcid 0 1 emit } ∧ v = s.session.nLayer ∨
      ∃ k ∈ [ControlKind.dedicatedMimoDl, .dedicatedMimoUl],
        s.cfg.hooks.lookup (.sbPre d l) = some { prog := .seq (.rcid 0 1 emit) (.control k) } ∧
          s.cfg.hooks.lookup (.control k) = some { prog := .writeNLayer (.lit v.toNat) }
  layer : s.cfg.hooks.lookup (.sbLayer d l) = some { prog := .read 0 (.lit 4) (some (.lit 0)) }
  post : s.cfg.hooks.lookup (.sbPost d l) = some { prog := .nop }
  crc : s.cfg.sbCrc.lookup (d, l, s.inp.includeCor2Changes) = some b

theorem State.Layered.of_frame (h : s.Layered d l b v) (hf : t.burstFrame = s.burstFrame) (hv : t.session.nLayer = v) :
    t.Layered d l b v := by
  obtain ⟨hcfg, hinp, -⟩ := cfg_of_burstFrame hf
  obtain ⟨emit, hpre⟩ := h.pre
  constructor <;> rw [hcfg]
  case read => exact h.read
  case pre => exact ⟨emit, hpre.imp (fun ⟨hp, _⟩ => ⟨hp, hv.symm⟩) id⟩
  case layer => exact h.layer
  case post => exact h.post
  case crc => rw [hinp]; exact h.crc

theorem rcidField_emits (hr : 16 ≤ s.cfg.doc.readMaxBits) (hb : s.pos + 16 ≤ s.effBound) :
    Emits 16 [.cid] s.session.nLayer rcidField s := by
  have hwidth := s.rcidWidth_le
  exact ⟨_, _, rcidField_ok hr (by omega), rfl, rfl, Nat.add_le_add_left hwidth _, [_], rfl, rfl⟩

/-- A call of a Dedicated-MIMO control whose hook writes `n_layer`. -/
theorem topCall_writes {k : ControlKind} (hk : k ∈ [ControlKind.dedicatedMimoDl, .dedicatedMimoUl])
    (h : s.cfg.hooks.lookup (.control k) = some { prog := .writeNLayer (.lit v.toNat) }) (sb : Bool) :
    topCall (.control k d sb) s = .ok () (s.setSession { s.session with nLayer := v }) := by
  obtain ⟨m, hm⟩ : ∃ m, Config.callsPerBit * (s.rem + 1) = m + 1 :=
    Nat.exists_eq_succ_of_ne_zero (Nat.mul_ne_zero (by decide) (Nat.succ_ne_zero _))
  have hmay : mayWriteNLayer (.control k) = true := by
    simp only [List.mem_cons, List.not_mem_nil, or_false] at hk
    rcases hk with rfl | rfl <;> rfl
  have hwrite : hookWriteNLayer (.control k) v.toNat s = .ok () (s.setSession { s.session with nLayer := v }) := by
    rw [hookWriteNLayer, if_pos hmay, modSession_run, BitVec.ofNat_toNat, BitVec.setWidth_eq]
  have hprog : runProg (callHook m) (.control k) d sb (.writeNLayer (.lit v.toNat)) [] s =
      .ok [] (s.setSession { s.session with nLayer := v }) :=
    (bind_of_ok (a := v.toNat) (t := s) rfl).trans (bind_of_ok hwrite)
  rw [topCall, getS_bind, hm, callHook, controlHook,
    bind_of_ok ((invokeHook_hook h).trans ((bind_of_ok hprog).trans rfl)), pure_run]

/-- The PRE part is one identifier, and leaves `n_layer` at `v`. -/
theorem sbPre_emits (h : s.Layered d l b v) (hb : s.pos + 16 ≤ s.effBound) :
    Emits 16 [.cid] v (sbPre topCall d l) s := by
  obtain ⟨a, t, hcid, ht⟩ := rcidField_emits h.read hb
  have hcount : s.cidCount < t.cidCount := by
    rw [ht.cidCount]
    exact Nat.lt_succ_self _
  obtain ⟨emit, ⟨hpre, rfl⟩ | ⟨k, hk, hpre, hcontrol⟩⟩ := h.pre
  · have hpart : sbPart topCall d (.sbPre d l) s = .ok (some []) t :=
      (invokeHook_hook hpre).trans ((bind_of_ok (runProg_rcid hcid)).trans rfl)
    exact ⟨(), t, sbPre_of_part hpart fun _ => hcount, ht⟩
  · have hwrite := topCall_writes (d := d) hk ((cfg_of_burstFrame ht.frame).1 ▸ hcontrol) true
    have hprog : runProg topCall (.sbPre d l) d true (.seq (.rcid 0 1 emit) (.control k)) [] s =
        .ok [(0, a.1), (1, a.2)] (t.setSession { t.session with nLayer := v }) :=
      (bind_of_ok (runProg_rcid hcid)).trans (bind_of_ok hwrite)
    have hpart : sbPart topCall d (.sbPre d l) s = .ok (some []) (t.setSession { t.session with nLayer := v }) :=
      (invokeHook_hook hpre).trans ((bind_of_ok hprog).trans rfl)
    exact ⟨(), _, sbPre_of_part hpart fun _ => hcount, ht.frame, rfl, ht.pos_le, ht.records⟩

theorem sbLayer_emits (h : s.Layered d l b v) (hv : s.session.nLayer = v) (hb : s.pos + 4 ≤ s.effBound) :
    Emits 4 [.hook (.sbLayer d l) 0] v (sbPart call d (.sbLayer d l)) s := by
  have hread := readBits_ok (s := s) (w := 4) (by have := h.read; omega) hb
  have hprog : runProg call (.sbLayer d l) d true (.read 0 (.lit 4) (some (.lit 0))) [] s =
      .ok [(0, memRead s.mem s.pos 4)] (s.moved (s.pos + 4) [s.fieldRec (.hook (.sbLayer d l) 0) s.pos 4]) :=
    (bind_of_ok (a := 4) (t := s) rfl).trans ((bind_of_ok (a := some 0) (t := s) rfl).trans (bind_of_ok hread))
  exact ⟨some [], _, (invokeHook_hook h.layer).trans ((bind_of_ok hprog).trans rfl), rfl, hv, le_rfl, [_], rfl, rfl⟩

/-- How many LAYER parts a sub-burst has. -/
def layerParts (l : Layout) (v : BitVec 2) : Nat := if isMimo l = true then v.toNat else 0

theorem layerParts_le (l : Layout) (v : BitVec 2) : layerParts l v ≤ 3 := by
  have hv := v.isLt
  unfold layerParts
  split <;> omega

theorem sbLayers_emits (h : s.Layered d l b v) (hv : s.session.nLayer = v)
    (hb : s.pos + 4 * layerParts l v ≤ s.effBound) :
    Emits (4 * layerParts l v) (List.replicate (layerParts l v) [.hook (.sbLayer d l) 0]).flatten v
      (sbLayers call d l) s := by
  refine .after (getS_run s) ?_
  cases hm : isMimo l
  · have hzero : layerParts l v = 0 := if_neg (by simp [hm])
    rw [hzero]
    exact .pure () hv
  · have hparts : layerParts l v = s.session.nLayer.toNat := by rw [hv]; exact if_pos hm
    rw [hparts] at hb ⊢
    exact Emits.loopD (n := 4)
      (fun _ t ht htv htb =>
        (sbLayer_emits (h.of_frame ht htv) htv (effBound_of_burstFrame ht ▸ htb)).bind (m := 0) (ids' := [])
          fun _ u hu => .pure () hu.layers)
      _ _ s rfl hv hb

/-- The record of a trailer, where there is one. -/
def trailerIds (present : Bool) : List FieldId := if present = true then [.trailer16] else []

theorem count_trailerIds (present : Bool) (id : FieldId) :
    (trailerIds present).count id = if present = true then [FieldId.trailer16].count id else 0 := by
  cases present <;> rfl

theorem warnMismatch_emitted (differs : Bool) (o info : Nat) (hv : s.session.nLayer = v) :
    Emitted 0 [] v s (s.warnMismatch differs o info) := by
  cases differs
  · exact .refl hv
  · exact ⟨rfl, hv, le_rfl, [], (List.append_nil _).symm, rfl⟩

theorem crcTrailer_emits (present : Bool) (hr : 16 ≤ s.cfg.doc.readMaxBits) (hv : s.session.nLayer = v)
    (hb : s.pos + 16 ≤ s.effBound) : Emits 16 (trailerIds present) v (crcTrailer present) s := by
  cases present
  · exact (Emits.pure () hv).mono (Nat.zero_le _)
  · have hspan : s.pos / 8 ≤ s.len := by
      have htotal := effBound_le_total s
      rw [State.total] at htotal
      omega
    refine ⟨(), _, bind_of_ok (verify16Op_ok hr (.inr hspan) hb), ?_⟩
    refine Emitted.trans (n := 16) (m := 0) (ids := [.trailer16]) (ids' := []) (v' := v) ?_
      (warnMismatch_emitted _ _ _ hv)
    exact ⟨rfl, hv, le_rfl, [_], rfl, rfl⟩

/-! ### A sub-burst -/

/-- The records of a sub-burst. -/
def burstIds (d : Dir) (l : Layout) (b : Bool) (v : BitVec 2) : List FieldId :=
  [.cid] ++ ((List.replicate (layerParts l v) [.hook (.sbLayer d l) 0]).flatten ++ trailerIds b)

theorem subBurst_emits (h : s.Layered d l b v) (hb : s.pos + 44 ≤ s.effBound) :
    Emits 44 (burstIds d l b v) v (subBurst topCall d l) s := by
  have hlayers := layerParts_le l v
  refine Emits.mono (n := 16 + (4 * layerParts l v + 16)) ?_ (by omega)
  refine (sbPre_emits h (by omega)).bind fun _ t ht => ?_
  have htb := effBound_of_burstFrame ht.frame
  have htp := ht.pos_le
  have htc := h.of_frame ht.frame ht.layers
  refine (sbLayers_emits htc ht.layers (by omega)).bind fun _ u hu => ?_
  have hub := effBound_of_burstFrame hu.frame
  have hup := hu.pos_le
  have huc := htc.of_frame hu.frame hu.layers
  exact .after (sbPart_nop huc.post) (.after (sbHasCrc_run huc.crc) (crcTrailer_emits b huc.read hu.layers (by omega)))

/-! ### The container -/

/-- One sub-burst, whose PRE part leaves `n_layer` at `v`, and `n` more. -/
theorem subBursts_emit (h : s.Layered d l b v) (hb : s.pos + 44 * (n + 1) ≤ s.effBound) :
    Emits (44 * (n + 1)) (List.replicate (n + 1) (burstIds d l b v)).flatten v
      (loopD (fun _ => subBurst topCall d l) (n + 1) ()) s := by
  rw [Nat.mul_succ, Nat.add_comm, List.replicate_succ, List.flatten_cons, loopD_succ]
  refine (subBurst_emits h (by omega)).bind fun _ t ht => ?_
  have htp := ht.pos_le
  refine Emits.loopD (s := s) (fun _ u hu huv hub => ?_) n () t ht.frame ht.layers (by omega)
  exact subBurst_emits (h.of_frame hu huv) (effBound_of_burstFrame hu ▸ hub)

/-- A container after its mode field: the count, exactly, then the sub-bursts and the trailer. -/
theorem containerBody_emits {o mode : Nat} (h : s.Layered d l b v) (hk : s.cfg.sbLoop.lookup (d, l) = some .count)
    (hw : s.cfg.nSubBurstBits = some w) (hr : w ≤ s.cfg.doc.readMaxBits)
    (hc : s.cfg.contCrc.lookup (d, l, s.inp.includeCor2Changes) = some c) (hn : memRead s.mem s.pos w = n)
    (hb : s.pos + w + 44 * (n + 1) + 16 ≤ s.effBound) :
    ∃ t, containerBody topCall d o mode (some l) s = .ok () t ∧
      Emitted (44 * (n + 1) + 16) ((List.replicate (n + 1) (burstIds d l b v)).flatten ++ trailerIds c) v
        ((s.setSeq .sbLoop).moved (s.pos + w) [s.fieldRec .nSubBurst s.pos w]) t := by
  subst hn
  let x := s.setSeq .sbLoop
  let y := x.moved (s.pos + w) [s.fieldRec .nSubBurst s.pos w]
  have hyb : y.pos + 44 * (memRead s.mem s.pos w + 1) + 16 ≤ y.effBound := hb
  have hcount : readField .nSubBurst w x = .ok (memRead s.mem s.pos w) y :=
    readField_moved (s := x) hr (by change s.pos + w ≤ s.effBound; omega)
  obtain ⟨_, z, hloop, hz⟩ := subBursts_emit (s := y) (n := memRead s.mem s.pos w)
    ⟨h.read, h.pre, h.layer, h.post, h.crc⟩ (by omega)
  have hrun : sbLoopRun topCall d l .count x = .ok () z := by
    rw [sbLoopRun, getS_bind]
    change (needParam s.cfg.nSubBurstBits .nSubBurstBits >>= _) x = _
    rw [hw, bind_of_ok (needParam_some w .nSubBurstBits x), bind_of_ok hcount, hloop]
  obtain ⟨hcfg, hinp, -⟩ := cfg_of_burstFrame hz.frame
  have hzb : z.pos + 16 ≤ z.effBound := by
    have hpos := hz.pos_le
    rw [effBound_of_burstFrame hz.frame]
    omega
  have hpresent : contHasCrc d l (z.setSeq .sbCrc) = .ok c (z.setSeq .sbCrc) :=
    contHasCrc_run (by rw [State.setSeq_cfg, State.setSeq_inp, hcfg, hinp]; exact hc)
  obtain ⟨_, t, htrailer, ht⟩ := crcTrailer_emits (s := z.setSeq .sbCrc) c
    (by rw [State.setSeq_cfg, hcfg]; exact h.read) hz.layers hzb
  have hzt : Emitted 16 (trailerIds c) v z t := ⟨ht.frame, ht.layers, ht.pos_le, ht.records⟩
  refine ⟨t, ?_, hz.trans hzt⟩
  rw [containerBody, setSeq_bind, bind_of_ok (sbLoopKind_run (s := x) hk), bind_of_ok hrun, setSeq_bind,
    bind_of_ok hpresent, htrailer]

/-! ### The row -/

/-- The records of the row of such a layout with `n` sub-bursts. -/
def rowIds (d : Dir) (l : Layout) (b c : Bool) (v : BitVec 2) (n : Nat) : List FieldId :=
  [.sbMode, .nSubBurst] ++ ((List.replicate n (burstIds d l b v)).flatten ++ trailerIds c)

theorem exec_layoutRow_counted (hi : (i, l) ∈ layoutRows) (hl : s.inp.cqichIdWidth.toNat ≤ 9)
    (h : s.Layered s.dir l b v) (hk : s.cfg.sbLoop.lookup (s.dir, l) = some .count)
    (hw : s.cfg.nSubBurstBits = some w) (hr : w ≤ s.cfg.doc.readMaxBits)
    (hc : s.cfg.contCrc.lookup (s.dir, l, s.inp.includeCor2Changes) = some c)
    (hn : memRead s.mem (s.pos + 4) w = n) (hb : s.pos + 4 + w + 44 * (n + 1) + 16 ≤ s.effBound) :
    ∃ t, exec i s = .next t.finish ∧
      Emitted (4 + w + (44 * (n + 1) + 16)) (rowIds s.dir l b c v (n + 1)) v s.startIe t ∧
      s.out ++ [s.fieldRec .sbMode s.pos 4, s.fieldRec .nSubBurst (s.pos + 4) w] <+: t.out := by
  have h4 : 4 ≤ s.cfg.doc.readMaxBits := Nat.le_trans (by omega) h.read
  obtain ⟨t, hrun, ht⟩ := containerBody_emits (s := s.modeRead) (o := s.pos) (mode := memRead s.mem s.pos 4)
    ⟨h.read, h.pre, h.layer, h.post, h.crc⟩ hk hw hr hc hn hb
  have hhead : Emitted (4 + w) [.sbMode, .nSubBurst] s.session.nLayer s.startIe
      ((s.modeRead.setSeq .sbLoop).moved (s.pos + 4 + w) [s.fieldRec .nSubBurst (s.pos + 4) w]) :=
    ⟨rfl, rfl, (Nat.add_assoc _ _ _).le, [_, _], List.append_assoc _ _ _, rfl⟩
  refine ⟨t, ?_, hhead.trans ht, ?_⟩
  · rw [exec_layoutRow hi, ieOp_sbModeRow hl h4 (by omega), callOp_of_ok hrun]
  · obtain ⟨rs, hout, -⟩ := ht.records
    exact ⟨rs, by rw [hout]; exact congrArg (· ++ rs) (List.append_assoc s.out [_] [_]).symm⟩

/-- How many of the records are of each kind: identifiers, LAYER records, trailers. -/
theorem count_rowIds (d : Dir) (l : Layout) (b c : Bool) (v : BitVec 2) (n : Nat) :
    (rowIds d l b c v n).count .cid = n ∧
      (rowIds d l b c v n).count (.hook (.sbLayer d l) 0) = (if isMimo l = true then n * v.toNat else 0) ∧
      (rowIds d l b c v n).count .trailer16 = (if b = true then n else 0) + if c = true then 1 else 0 := by
  have hrow : ∀ id, (rowIds d l b c v n).count id =
      [FieldId.sbMode, .nSubBurst].count id + (n * (burstIds d l b v).count id + (trailerIds c).count id) := fun id => by
    rw [rowIds, List.count_append, List.count_append, List.count_flatten, List.map_replicate, List.sum_replicate,
      smul_eq_mul]
  have hburst : ∀ id, (burstIds d l b v).count id =
      [FieldId.cid].count id + (layerParts l v * [FieldId.hook (.sbLayer d l) 0].count id + (trailerIds b).count id) :=
    fun id => by
      rw [burstIds, List.count_append, List.count_append, List.count_flatten, List.map_replicate, List.sum_replicate,
        smul_eq_mul]
  simp only [hrow, hburst, count_trailerIds]
  refine ⟨?_, ?_, ?_⟩
  · simp
  · simp [layerParts]
  · simp

/-- Settles O35. -/
theorem countedSubBursts : Obligations.CountedSubBursts := by
  rintro ⟨i, l⟩ hi s w b c emit v hdoc hl hk hw hmax hcrc hcont n hook hlayer hpost hpre hb
  have hr : s.cfg.doc.readMaxBits = 32 := by rw [hdoc]
  obtain ⟨t, hrun, ht, hhead⟩ := exec_layoutRow_counted hi hl ⟨by omega, ⟨emit, hpre⟩, hlayer, hpost, hcrc⟩ hk hw
    (by omega) hcont rfl hb
  obtain ⟨hcids, hlayers, htrailers⟩ := count_rowIds s.dir l b c v n
  obtain ⟨-, -, hlim⟩ := cfg_of_burstFrame ht.frame
  refine ⟨t.finish, hrun, rfl, congrArg Prod.snd ht.frame, hlim, ht.session, ?_, (ht.countP _).trans hcids,
    (ht.countP _).trans hlayers, (ht.countP _).trans htrailers⟩
  obtain ⟨rs, hout⟩ := hhead
  rw [State.finish_out, ← hout, List.append_assoc, List.drop_left]
  exact List.prefix_append _ _

end Sys2Proof.Machine
end

section
/-! PROOFS. The commands of the Checksum Validator (44_checksum.md R246 to R250), each as one equation: what it answers,
and the state it leaves. -/

namespace Sys2Proof.Machine

variable {s t u : State} {w sum : Nat}

/-- A cursor in the buffer stands after whole bytes of it only. -/
theorem byte_le_len_of_pos_le_total (h : s.pos ≤ s.total) : s.pos / 8 ≤ s.len := by
  rw [State.total] at h
  omega

/-! ### CRC16 and CRC32 -/

/-- A checksum, as the command port answers it. -/
def answerSum (x : D (BitVec w)) : D Response := do
  let c ← x
  pure (.value c.toNat)

theorem unitOp_answerSum_ok {x : D (BitVec w)} {c : BitVec w} (h : x s = .ok c t) :
    unitOp (answerSum x) s = .next (t.setResult (.value c.toNat)) :=
  unitOp_of_ok (bind_of_ok h)

/-- Settles O18. -/
theorem checksumsCoverTheSpan : Obligations.ChecksumsCoverTheSpan := by
  intro s hp
  have hspan := byte_le_len_of_pos_le_total hp
  exact ⟨⟨crc16Acc s.cfg.doc.crc16Poly s.crc16Reflect s.spanBytes, unitOp_answerSum_ok (calc16_ok (.inr hspan))⟩,
    ⟨crc32Acc s.cfg.doc.crc32Poly s.cfg.crc32Reflect s.spanBytes, unitOp_answerSum_ok (calc32_ok (.inr hspan))⟩⟩

/-! ### VERIFY16 and VERIFY32 -/

theorem verify16Op_truncated (hr : 16 ≤ s.cfg.doc.readMaxBits) (hs : s.pos / 8 ≤ s.msgStartByte ∨ s.pos / 8 ≤ s.len)
    (h : s.effBound < s.pos + 16) :
    verify16Op s =
      .error (.raised .truncated s.pos) (s.setAcc16 (crc16Acc s.cfg.doc.crc16Poly s.crc16Reflect s.spanBytes)) := by
  simp only [verify16Op]
  rw [bind_of_ok (calc16_ok hs), getPos_bind]
  exact bind_of_error (readField_truncated hr h)

theorem verify32Op_truncated (hr : 32 ≤ s.cfg.doc.readMaxBits) (hs : s.pos / 8 ≤ s.msgStartByte ∨ s.pos / 8 ≤ s.len)
    (h : s.effBound < s.pos + 32) :
    verify32Op s =
      .error (.raised .truncated s.pos) (s.setAcc32 (crc32Acc s.cfg.doc.crc32Poly s.cfg.crc32Reflect s.spanBytes)) := by
  simp only [verify32Op]
  rw [bind_of_ok (calc32_ok hs), getPos_bind]
  exact bind_of_error (readField_truncated hr h)

/-- The outcome of a comparison, as the command port answers it. -/
def answerFlag (x : D Bool) : D Response := do
  let b ← x
  pure (.flag b)

theorem unitOp_answerFlag_ok {x : D Bool} {b : Bool} (h : x s = .ok b t) :
    unitOp (answerFlag x) s = .next (t.setResult (.flag b)) :=
  unitOp_of_ok (bind_of_ok h)

theorem unitOp_answerFlag_raised {x : D Bool} {e : ErrKind} {p : Nat} (h : x s = .error (.raised e p) t) :
    unitOp (answerFlag x) s = .next (t.setResult (.error e p)) :=
  unitOp_of_raised (bind_of_error h)

/-- The state after a trailer of `w` bits that was read and recorded. -/
def State.trailed (u : State) (id : FieldId) (w : Nat) : State :=
  (u.setPos (u.pos + w)).emit (u.fieldRec id u.pos w)

/-- A comparison of the trailer at POS with `sum`, where `u` is the state once `sum` is computed. -/
theorem unitOp_verify {x : D Bool} {id : FieldId}
    (hshort : u.effBound < u.pos + w → x s = .error (.raised .truncated u.pos) u)
    (hfits : u.pos + w ≤ u.effBound →
      x s = .ok (decide (memRead u.mem u.pos w = sum))
        ((u.trailed id w).warnMismatch (decide (memRead u.mem u.pos w ≠ sum)) u.pos sum)) :
    unitOp (answerFlag x) s =
      if u.effBound < u.pos + w then .next (u.unitEnds u.pos (.error .truncated u.pos))
      else if memRead u.mem u.pos w = sum then .next ((u.trailed id w).setResult (.flag true))
      else .next (((u.trailed id w).warned .checksumMismatch u.pos sum).setResult (.flag false)) := by
  split
  next h => exact unitOp_answerFlag_raised (hshort h)
  next h =>
    have hrun := unitOp_answerFlag_ok (hfits (Nat.le_of_not_lt h))
    split
    next heq => simpa [heq, State.warnMismatch] using hrun
    next hne => simpa [hne, State.warnMismatch, State.addWarn, State.warned] using hrun

/-- Settles O19. -/
theorem verifySixteen : Obligations.VerifySixteen := by
  intro s hr hp
  have hspan := byte_le_len_of_pos_le_total hp
  refine ⟨crc16Acc s.cfg.doc.crc16Poly s.crc16Reflect s.spanBytes, ?_⟩
  exact unitOp_verify (u := s.setAcc16 (crc16Acc s.cfg.doc.crc16Poly s.crc16Reflect s.spanBytes))
    (verify16Op_truncated hr (.inr hspan)) (verify16Op_ok hr (.inr hspan))

/-- Settles O20. -/
theorem verifyThirtyTwo : Obligations.VerifyThirtyTwo := by
  intro s hr hp
  have hspan := byte_le_len_of_pos_le_total hp
  refine ⟨crc32Acc s.cfg.doc.crc32Poly s.cfg.crc32Reflect s.spanBytes, ?_⟩
  exact unitOp_verify (u := s.setAcc32 (crc32Acc s.cfg.doc.crc32Poly s.cfg.crc32Reflect s.spanBytes))
    (verify32Op_truncated hr (.inr hspan)) (verify32Op_ok hr (.inr hspan))

end Sys2Proof.Machine
end

section
/-! PROOFS. The checksum tables (44_checksum.md R240 to R244): a byte step moves the bits it does not look up by eight
places, and the table, being linear, adds the eight bit steps of the rest. One bit step serves both widths. -/

namespace Sys2Proof.Machine

variable {w : Nat}

/-! ### The bit step -/

/-- The bit step of a checksum of `w` bits. -/
def bitStep (p : BitVec w) (reflect : Bool) (c : BitVec w) : BitVec w :=
  if reflect then (if c.getLsbD 0 then (c >>> 1) ^^^ p.reverse else c >>> 1)
  else (if c.getMsbD 0 then (c <<< 1) ^^^ p else c <<< 1)

theorem crc32Bit_eq_bitStep (p : BitVec 32) (reflect : Bool) : crc32Bit p reflect = bitStep p reflect := rfl

theorem crc16Bit_eq_bitStep (p : BitVec 16) (reflect : Bool) : crc16Bit p reflect = bitStep p reflect := rfl

theorem bitStep_reflected_of_low_clear {p c : BitVec w} (h : c.getLsbD 0 = false) : bitStep p true c = c >>> 1 := by
  simp [bitStep, h]

theorem bitStep_of_top_clear {p c : BitVec w} (h : c.getMsbD 0 = false) : bitStep p false c = c <<< 1 := by
  simp [bitStep, h]

/-- Where the next `n` bits to leave are 0, `n` bit steps only move the value. -/
theorem iterate_bitStep_reflected (p : BitVec w) (n : Nat) (c : BitVec w) (h : ∀ i < n, c.getLsbD i = false) :
    (bitStep p true)^[n] c = c >>> n := by
  induction n generalizing c with
  | zero => simp
  | succ n ih =>
    have hrest : ∀ i < n, (c >>> 1).getLsbD i = false := fun i hi => by
      rw [BitVec.getLsbD_ushiftRight]
      exact h _ (by omega)
    rw [Function.iterate_succ_apply, bitStep_reflected_of_low_clear (h 0 (by omega)), ih _ hrest, Nat.add_comm n,
      BitVec.shiftRight_add]

theorem iterate_bitStep_msbFirst (p : BitVec w) (n : Nat) (c : BitVec w) (h : ∀ i < n, c.getMsbD i = false) :
    (bitStep p false)^[n] c = c <<< n := by
  induction n generalizing c with
  | zero => simp
  | succ n ih =>
    have hrest : ∀ i < n, (c <<< 1).getMsbD i = false := fun i hi => by
      rw [BitVec.getMsbD_shiftLeft]
      exact h _ (by omega)
    rw [Function.iterate_succ_apply, bitStep_of_top_clear (h 0 (by omega)), ih _ hrest, Nat.add_comm n,
      BitVec.shiftLeft_add]

/-! ### The byte step -/

theorem eightTimes_eq_iterate {α : Type} (f : α → α) : eightTimes f = f^[8] := rfl

/-- The eight low bits and the rest, the byte folded into the former. -/
theorem xor_low_byte (acc : BitVec w) (d : Byte) :
    acc >>> 8 <<< 8 ^^^ (acc.setWidth 8 ^^^ d).setWidth w = acc ^^^ d.setWidth w := by
  ext i hi
  rcases Nat.lt_or_ge i 8 with h8 | h8
  · simp [h8, hi]
  · simp [h8, Nat.not_lt.mpr h8, Nat.add_sub_cancel' h8, BitVec.getLsbD_eq_getElem hi]

/-- The eight high bits and the rest, the byte folded into the former. -/
theorem xor_high_byte (hw : 8 ≤ w) (acc : BitVec w) (d : Byte) :
    acc <<< 8 >>> 8 ^^^ ((acc >>> (w - 8)).setWidth 8 ^^^ d).setWidth w <<< (w - 8) =
      acc ^^^ d.setWidth w <<< (w - 8) := by
  ext i hi
  rcases Nat.lt_or_ge i (w - 8) with h8 | h8
  · have hlow : 8 + i < w := by omega
    simp [h8, hlow]
  · have hhigh : ¬8 + i < w := by omega
    have hbyte : i - (w - 8) < 8 := by omega
    simp [Nat.not_lt.mpr h8, hhigh, hbyte, Nat.add_sub_cancel' h8, BitVec.getLsbD_eq_getElem hi]

theorem ushiftRight_shiftLeft_ushiftRight (c : BitVec w) (n : Nat) : c >>> n <<< n >>> n = c >>> n := by
  ext i hi
  have hin : c.getLsbD (n + i) = true → n + i < w := BitVec.lt_of_getLsbD
  simpa using hin

theorem shiftLeft_ushiftRight_shiftLeft (c : BitVec w) (n : Nat) : c <<< n >>> n <<< n = c <<< n := by
  ext i hi
  rcases Nat.lt_or_ge i n with hn | hn
  · simp [hn]
  · simp [Nat.not_lt.mpr hn, Nat.add_sub_cancel' hn, hi]

/-- The table look-up of a reflected byte step is eight bit steps. That a bit step is linear is `crc32Bit_xor` or
`crc16Bit_xor`, by the width. -/
theorem byteStep_reflected (p acc : BitVec w) (d : Byte)
    (hxor : ∀ a b, bitStep p true (a ^^^ b) = bitStep p true a ^^^ bitStep p true b) :
    acc >>> 8 ^^^ eightTimes (bitStep p true) ((acc.setWidth 8 ^^^ d).setWidth w) =
      eightTimes (bitStep p true) (acc ^^^ d.setWidth w) := by
  have hrest : eightTimes (bitStep p true) (acc >>> 8 <<< 8) = acc >>> 8 := by
    rw [eightTimes_eq_iterate, iterate_bitStep_reflected _ _ _ fun i hi => by simp [hi],
      ushiftRight_shiftLeft_ushiftRight acc 8]
  rw [← xor_low_byte, eightTimes_xor _ hxor, hrest]

/-- The table look-up of a byte step is eight bit steps. -/
theorem byteStep_msbFirst (hw : 8 ≤ w) (p acc : BitVec w) (d : Byte)
    (hxor : ∀ a b, bitStep p false (a ^^^ b) = bitStep p false a ^^^ bitStep p false b) :
    acc <<< 8 ^^^ eightTimes (bitStep p false) (((acc >>> (w - 8)).setWidth 8 ^^^ d).setWidth w <<< (w - 8)) =
      eightTimes (bitStep p false) (acc ^^^ d.setWidth w <<< (w - 8)) := by
  have hrest : eightTimes (bitStep p false) (acc <<< 8 >>> 8) = acc <<< 8 := by
    rw [eightTimes_eq_iterate, iterate_bitStep_msbFirst _ _ _ fun i hi => by simp [hi],
      shiftLeft_ushiftRight_shiftLeft acc 8]
  rw [← xor_high_byte hw, eightTimes_xor _ hxor, hrest]

/-! ### The tables mirror each other -/

theorem reverse_xor (a b : BitVec w) : (a ^^^ b).reverse = a.reverse ^^^ b.reverse := by
  ext i hi
  simp [BitVec.getElem_reverse]

theorem reverse_shiftLeft (a : BitVec w) (n : Nat) : (a <<< n).reverse = a.reverse >>> n := by
  ext i hi
  simp [BitVec.getElem_reverse, BitVec.getLsbD_reverse, BitVec.getMsbD_shiftLeft, Nat.add_comm]

theorem bitStep_reverse (p c : BitVec w) : bitStep p true c.reverse = (bitStep p false c).reverse := by
  have hbit : c.reverse.getLsbD 0 = c.getMsbD 0 := BitVec.getLsbD_reverse
  cases hc : c.getMsbD 0 <;> simp [bitStep, hbit, hc, reverse_xor, reverse_shiftLeft]

theorem eightTimes_bitStep_reverse (p c : BitVec w) :
    eightTimes (bitStep p true) c.reverse = (eightTimes (bitStep p false) c).reverse := by
  have hstep : Function.Semiconj BitVec.reverse (bitStep p false) (bitStep p true) := fun c => (bitStep_reverse p c).symm
  exact (hstep.iterate_right 8 c).symm

/-- The index at the top of a reversed value is the reversed index at its bottom. -/
theorem reverse_high_byte (hw : 8 ≤ w) (i : BitVec 8) : (i.reverse.setWidth w <<< (w - 8)).reverse = i.setWidth w := by
  ext j hj
  have hindex : j + (w - 8) + 8 - w = j := by omega
  rw [BitVec.getElem_reverse, BitVec.getMsbD_shiftLeft, BitVec.getMsbD_setWidth]
  simp [hindex, BitVec.getMsbD_reverse]

/-- The index of a table entry, folded in at the end the bits leave from. -/
theorem eightTimes_bitStep_byte_reverse (hw : 8 ≤ w) (p : BitVec w) (i : BitVec 8) :
    eightTimes (bitStep p true) (i.setWidth w) =
      (eightTimes (bitStep p false) (i.reverse.setWidth w <<< (w - 8))).reverse := by
  rw [← eightTimes_bitStep_reverse, reverse_high_byte hw]

/-! ### The obligation -/

/-- Settles O21: each half is one fact about `bitStep`, at 32 and at 16 bits. -/
theorem checksumTablesAreBitSteps : Obligations.ChecksumTablesAreBitSteps := by
  refine ⟨fun p acc d => ⟨?_, ?_⟩, fun p acc d => ⟨?_, ?_⟩, fun p q i => ⟨?_, ?_⟩, rfl, rfl⟩
  · rw [crc32Bit_eq_bitStep]
    exact byteStep_reflected p acc d (crc32Bit_xor p true)
  · rw [crc32Bit_eq_bitStep]
    exact byteStep_msbFirst (by decide) p acc d (crc32Bit_xor p false)
  · rw [crc16Bit_eq_bitStep]
    exact byteStep_reflected p acc d (crc16Bit_xor p true)
  · rw [crc16Bit_eq_bitStep]
    exact byteStep_msbFirst (by decide) p acc d (crc16Bit_xor p false)
  · exact eightTimes_bitStep_byte_reverse (by decide) p i
  · exact eightTimes_bitStep_byte_reverse (by decide) q i

end Sys2Proof.Machine
end

section
/-! PROOFS. How a message runs (45_message_decoders.md R261, R263 to R265): its entry, the header of a kind
without a hook, what follows the IEs of a segment, and the trailer. -/

namespace Sys2Proof.Machine

variable {s u v : State} {k : MsgKind} {d : Dir} {f : Family}

/-! ### The entry -/

/-- The state in which a message begins its first segment. -/
def State.entered (s : State) (k : MsgKind) : State := (s.initCall s.inp.start).enterMsg k

/-- A message whose inputs are legal is its segment from the entered state. -/
theorem msgCommand_legal (hl : s.inp.cqichIdWidth.toNat ≤ 9) (ht : s.tooLong = false) (hs : s.inp.start ≤ 8 * s.inp.len)
    (hc : (kindArgs s.cfg k).2 = .compact → s.cfg.compactMap.isSome) :
    msgCommand k s = callOp (segment k) (s.entered k) := by
  have hcompact : checkCompact (kindArgs s.cfg k).2 (s.initCall s.inp.start) = .ok () (s.initCall s.inp.start) :=
    checkCompact_run hc
  refine callOp_congr ?_
  rw [bind_of_ok (checkCqich_run hl), bind_of_ok (initCursor_ok ht hs), bind_of_ok hcompact, modS_bind]
  rfl

/-- Inside a message, where no error is recorded, an IE starts as one of its own does. -/
theorem startIe_eq_setSeq (he : s.err = 0) (hp : s.errPos = 0) : s.startIe = s.setSeq .ieType := by
  rw [State.startIe, State.setSeq, ← he, ← hp]

/-! ### The header -/

/-- The state once `cid_type` has become unspecified. -/
def State.freedCid (s : State) : State :=
  (s.setDraws (s.draws + 1)).setSession { s.session with cidType := cidTypeOf (Config.freeCidType s.draws) }

/-- What a header without a hook leaves: `cid_type` unspecified in the Compact kinds, nothing else. -/
def State.headerLeft (s : State) (k : MsgKind) : State := if isCompactKind k = true then s.freedCid else s

/-- The record of a header that returns nothing and takes no bits. -/
def State.defaultHeader (s : State) (k : MsgKind) : Header :=
  { ieBits := s.inp.msgLenBits, ulAppended := false, trailer := hasTrailer k }

theorem headerCidType_none (k : MsgKind) (s : State) : headerCidType k none s = .ok () (s.headerLeft k) := by
  unfold headerCidType State.headerLeft
  split <;> rfl

theorem headerCidType_some (k : MsgKind) (vs : List (Option Nat)) (s : State) :
    headerCidType k (some vs) s = .ok () s := by
  unfold headerCidType
  split <;> rfl

theorem msgHeader_default (hn : s.cfg.hooks.lookup (.msgHdr k) = none) :
    msgHeader k d s = .ok (s.defaultHeader k) (s.headerLeft k) := by
  have hleft : (s.headerLeft k).pos = s.pos ∧ (s.headerLeft k).inp = s.inp := by
    unfold State.headerLeft
    split <;> exact ⟨rfl, rfl⟩
  have hhook : invokeHook topCall (.msgHdr k) d false (pure ()) [] s = .ok none s := invokeHook_default hn rfl
  rw [msgHeader, getPos_bind, bind_of_ok hhook, bind_of_ok (headerCidType_none k s), getS_bind,
    hleft.1, hleft.2, Nat.sub_self]
  simp [State.defaultHeader, retAt, retFlag]

/-! ### After the IEs -/

/-- The segment whose IEs end in `s`, its limit popped and padded to a byte. -/
def State.padded (s : State) : State :=
  { s with limstk := [], pos := 8 * ((s.pos + 7) / 8), state := .msgCrc }

theorem add_padAmount_byte (p : Nat) : p + padAmount 8 p = 8 * ((p + 7) / 8) := by
  unfold padAmount
  omega

theorem byteUp_le_total (h : s.pos ≤ s.total) : 8 * ((s.pos + 7) / 8) ≤ s.total := by
  rw [← add_padAmount_byte]
  exact padAmount_byte_inside h

/-- A segment from its header and its IEs on. -/
theorem segmentBody_of_ieLoop {h : Header} {e : Nat}
    (hh : headerAndLimit k (kindArgs s.cfg k).1 (s.setSeq .msgHdr) = .ok h v)
    (hl : ieLoop (kindArgs s.cfg k).1 (kindArgs s.cfg k).2 v.topLimit v.turnBound v = .ok () u) (hu : u.limstk = [e])
    (hp : u.pos ≤ u.total) :
    segmentBody k s = (do whenD h.trailer (msgTrailer k); pure h) u.padded := by
  let w := (u.setLimstk []).setSeq .msgPad
  have hpad : padByte w = .ok () (w.setPos (8 * ((u.pos + 7) / 8))) := by
    rw [← add_padAmount_byte]
    exact moveBits_ok (padAmount_byte_inside hp)
  simp only [segmentBody, getS_bind, setSeq_bind]
  rw [bind_of_ok hh, getS_bind, bind_of_ok hl, bind_of_ok (popLimit_ok hu), setSeq_bind, bind_of_ok hpad, setSeq_bind]
  rfl

/-! ### The trailer -/

/-- A trailer of `w` bits at POS, recorded and compared with `sum`. -/
def State.checked (s : State) (id : FieldId) (w sum : Nat) : State :=
  { s.trailed id w with
    warn := s.warn ++ if memRead s.mem s.pos w ≠ sum then [⟨.checksumMismatch, s.pos, sum⟩] else []
    wCrc := s.wCrc || decide (memRead s.mem s.pos w ≠ sum) }

theorem trailed_warnMismatch (id : FieldId) (w sum : Nat) :
    (s.trailed id w).warnMismatch (decide (memRead s.mem s.pos w ≠ sum)) s.pos sum = s.checked id w sum := by
  by_cases h : memRead s.mem s.pos w = sum <;>
    simp [State.warnMismatch, State.checked, State.addWarn, State.trailed, State.emit, State.setPos, h]

/-- A CRC-16 trailer that lies in the buffer. -/
theorem msgTrailer_raas (hdoc : s.cfg.doc = {}) (hlim : s.limstk = []) (h : s.pos + 16 ≤ s.total) :
    ∃ a, msgTrailer .raasPrivateMap s =
      .ok () ((s.checked .trailer16 16 (crc16 s.cfg.doc.crc16Poly s.crc16Reflect s.spanBytes).toNat).setAcc16 a) := by
  have hspan := byte_le_len_of_pos_le_total (Nat.le_of_add_right_le h)
  refine ⟨crc16Acc s.cfg.doc.crc16Poly s.crc16Reflect s.spanBytes, ?_⟩
  have hrun := verify16Op_ok (s := s) (by rw [hdoc]; decide) (.inr hspan) (by rwa [effBound_of_no_limit hlim])
  rw [msgTrailer, if_pos rfl, bind_of_ok hrun, pure_run]
  exact congrArg _ (trailed_warnMismatch (s := s.setAcc16 _) _ _ _)

/-- A CRC-32 trailer that lies in the buffer. -/
theorem msgTrailer_compact (hk : k ≠ .raasPrivateMap) (hdoc : s.cfg.doc = {}) (hlim : s.limstk = [])
    (h : s.pos + 32 ≤ s.total) :
    ∃ a, msgTrailer k s = .ok ()
      ((s.checked .trailer32 32 (crc32 s.cfg.doc.crc32Poly s.cfg.crc32Reflect s.spanBytes).toNat).setAcc32 a) := by
  have hspan := byte_le_len_of_pos_le_total (Nat.le_of_add_right_le h)
  refine ⟨crc32Acc s.cfg.doc.crc32Poly s.cfg.crc32Reflect s.spanBytes, ?_⟩
  have hrun := verify32Op_ok (s := s) (by rw [hdoc]) (.inr hspan) (by rwa [effBound_of_no_limit hlim])
  rw [msgTrailer, if_neg hk, bind_of_ok hrun, pure_run]
  exact congrArg _ (trailed_warnMismatch (s := s.setAcc32 _) _ _ _)

end Sys2Proof.Machine
end

section
/-! PROOFS. Messages of regular IEs without CID lists (45_message_decoders.md R260, R261, R264, R265, R267): the legacy
kinds, and the Reduced-AAS private map read as legacy downlink. -/

namespace Sys2Proof.Machine

variable {s t u v : State} {k : MsgKind} {d : Dir} {n : Nat} {l : List Bool}

/-! ### Regular IEs one after another -/

/-- The records of a regular IE at `p` whose sample is 0. -/
def State.regularRecs (s : State) (p : Nat) : List OutRec :=
  [s.fieldRec .l0Type p 4, s.fieldRec (.regBody 0) (p + 4) 32]

/-- The records of `n` of them from `p` on. -/
def State.regularsRecs (s : State) (p n : Nat) : List OutRec :=
  (List.range n).flatMap fun j => s.regularRecs (p + 36 * j)

theorem regularsRecs_succ (s : State) (p n : Nat) :
    s.regularsRecs p (n + 1) = s.regularRecs p ++ s.regularsRecs (p + 36) n := by
  have hshift : ∀ j, p + 36 * (j + 1) = p + 36 + 36 * j := fun j => by omega
  simp [State.regularsRecs, List.range_succ_eq_map, List.flatMap_map, hshift]

/-- The state after `n` regular IEs, the samples `l` being left and STATE being `q`. -/
def State.regularsRead (s : State) (n : Nat) (l : List Bool) (q : SeqState) : State :=
  { s with pos := s.pos + 36 * n, out := s.out ++ s.regularsRecs s.pos n, altSamples := l, state := q }

/-- What the parts of a message leave as it is, and what makes an IE without a CID list of documented widths. -/
structure State.PlainIes (s : State) : Prop where
  doc : s.cfg.doc = {}
  err : s.err = 0
  errPos : s.errPos = 0
  incCid : s.session.incCid = false

/-- `n` regular IEs at POS. -/
def State.regularsAt (s : State) (p n : Nat) : Prop :=
  ∀ j < n, memRead s.mem (p + 36 * j) 4 ≤ 10 ∨ memRead s.mem (p + 36 * j) 4 = 13

/-- A regular IE of a message, its sample fixed at 0. -/
theorem decodeLegacyIe_regular (h : s.PlainIes) (halt : s.altSamples = false :: l)
    (ht : memRead s.mem s.pos 4 ≤ 10 ∨ memRead s.mem s.pos 4 = 13) (hb : s.pos + 36 ≤ s.effBound) :
    decodeLegacyIe d (s.setSeq .ieType) = .ok () (s.regularsRead 1 l .ieRegBody) := by
  have hbits : s.cfg.doc.l0TypeBits = 4 := by rw [h.doc]
  have hpos : s.typed.pos = s.pos + 4 := by simp [State.typed, State.subAt, hbits]
  have hno : ¬(Family.legacy = .legacy ∧ d = .dl ∧ s.typed.session.incCid = true) := fun hc =>
    absurd (hc.2.2.symm.trans h.incCid) (by decide)
  have hwords : (s.typed.setAlt l).pos + 32 * regCount false ≤ (s.typed.setAlt l).effBound := by
    rw [State.setAlt_pos, hpos, regCount_false]
    exact hb
  rw [← startIe_eq_setSeq h.err h.errPos, decodeLegacyIe, getPos_bind,
    bind_of_ok (typeField_typed h.doc (by omega)), l0Arm_regular ht, regular_eq,
    bind_of_ok (sampleAlt_fixed (s := s.typed) halt), bind_of_ok (cidListPart_absent (s := s.typed.setAlt l) hno),
    regWords_ok (s := s.typed.setAlt l) h.doc hwords]
  simp [State.regRead, State.regularsRead, State.regularsRecs, State.regularRecs, State.typed, State.subAt, hbits,
    regCount, State.startIe, State.setPos, State.emit, State.setAlt, State.fieldRec, h.err, h.errPos]

/-- One regular IE, then `n`. -/
theorem regularsRead_add_one (s : State) (n : Nat) (l m : List Bool) (q r : SeqState) :
    (s.regularsRead 1 m q).regularsRead n l r = s.regularsRead (n + 1) l r := by
  have hpos : s.pos + 36 * 1 + 36 * n = s.pos + 36 * (n + 1) := by omega
  have hrecs : s.regularsRecs s.pos (n + 1) = s.regularsRecs s.pos 1 ++ s.regularsRecs (s.pos + 36) n := by
    rw [regularsRecs_succ, regularsRecs_succ]
    simp [State.regularsRecs]
  simp only [State.regularsRead, hpos, hrecs, List.append_assoc]
  rfl

/-- The loop of a message over `n` regular IEs that fill its region. -/
theorem ieLoop_regulars (n : Nat) :
    ∀ {s : State} {fuel : Nat}, s.PlainIes → s.altSamples = List.replicate n false ++ l → s.regularsAt s.pos n →
      s.pos + 36 * n ≤ s.effBound → n < fuel →
      ∃ q, ieLoop d .legacy (s.pos + 36 * n) fuel s = .ok () (s.regularsRead n l q) := by
  induction n with
  | zero =>
    intro s fuel h halt ht hb hf
    obtain ⟨fuel, rfl⟩ := Nat.exists_eq_add_of_lt hf
    refine ⟨s.state, ?_⟩
    have halt' : l = s.altSamples := halt.symm
    simp [ieLoop, State.regularsRead, State.regularsRecs, halt']
  | succ n ih =>
    intro s fuel h halt ht hb hf
    obtain ⟨fuel, rfl⟩ : ∃ m, fuel = m + 1 := ⟨fuel - 1, by omega⟩
    let rest := List.replicate n false ++ l
    let u := s.regularsRead 1 rest .ieRegBody
    have hone : decodeIe d .legacy (s.setSeq .ieType) = .ok () u :=
      decodeLegacyIe_regular h halt (ht 0 (by omega)) (by omega)
    have hu : u.pos = s.pos + 36 := rfl
    have hat : u.regularsAt u.pos n := fun j hj => by
      have := ht (j + 1) (by omega)
      rwa [show s.pos + 36 * (j + 1) = u.pos + 36 * j by rw [hu]; omega] at this
    obtain ⟨q, hrest⟩ := ih (s := u) (fuel := fuel) ⟨h.doc, h.err, h.errPos, h.incCid⟩ rfl hat
      (show s.pos + 36 + 36 * n ≤ s.effBound by omega) (by omega)
    have hend : s.pos + 36 * (n + 1) = u.pos + 36 * n := by rw [hu]; omega
    refine ⟨q, ?_⟩
    rw [ieLoop, getS_bind, if_neg (by omega), setSeq_bind, bind_of_ok hone, getS_bind, if_neg (by omega), hend, hrest]
    rw [regularsRead_add_one]

/-! ### A message of regular IEs -/

/-- A header without a hook, before or after the limit of its region. -/
theorem headerAndLimit_default (hk : isCompactKind k = false) (hn : s.cfg.hooks.lookup (.msgHdr k) = none)
    (hdoc : s.cfg.doc = {}) (hlim : s.limstk = []) :
    headerAndLimit k d s = .ok (s.defaultHeader k) (s.setLimstk [s.pos + s.inp.msgLenBits]) := by
  have hleft : ∀ s : State, s.headerLeft k = s := fun s => by simp [State.headerLeft, hk]
  have hpush : pushLimit s.inp.msgLenBits s = .ok () (s.setLimstk [s.pos + s.inp.msgLenBits]) := by
    have h := pushLimit_ok (s := s) (n := s.inp.msgLenBits) (by simp [hlim, hdoc]) (by simp [hlim])
    rwa [hlim] at h
  have hheader : ∀ u : State, u.cfg = s.cfg → msgHeader k d u = .ok (u.defaultHeader k) u := fun u hu => by
    rw [msgHeader_default (by rwa [hu]), hleft]
  rw [headerAndLimit, getS_bind]
  split
  · rw [bind_of_ok hpush]
    exact hheader _ rfl
  · rw [bind_of_ok (hheader s rfl)]
    exact bind_of_ok hpush

/-- What makes a message one of `n` regular IEs: legal inputs, no header hook, `n` samples of 0, the
IEs in the buffer. -/
structure State.RegularMessage (s : State) (k : MsgKind) (d : Dir) (n : Nat) (l : List Bool) : Prop where
  args : kindArgs s.cfg k = (d, .legacy)
  plain : isCompactKind k = false
  doc : s.cfg.doc = {}
  legal : s.inp.cqichIdWidth.toNat ≤ 9
  short : s.tooLong = false
  declared : s.inp.msgLenBits = 36 * n
  inside : s.inp.start + 36 * n ≤ 8 * s.inp.len
  incCid : s.cfg.sessionInit.incCid = false
  noHook : s.cfg.hooks.lookup (.msgHdr k) = none
  samples : s.altSamples = List.replicate n false ++ l
  regular : s.regularsAt s.inp.start n

/-- The end of the padded region. -/
def State.regularEnd (s : State) (n : Nat) : Nat := 8 * ((s.inp.start + 36 * n + 7) / 8)

/-- The state of such a message before its trailer, if any. -/
def State.regularRegion (s : State) (k : MsgKind) (n : Nat) (l : List Bool) : State :=
  ((s.entered k).regularsRead n l .ieType).padded

theorem segmentBody_regulars (h : s.RegularMessage k d n l) :
    segmentBody k (s.entered k) =
      (do whenD (hasTrailer k) (msgTrailer k); pure (s.defaultHeader k)) (s.regularRegion k n l) := by
  let b := (s.entered k).setSeq .msgHdr
  let v := b.setLimstk [s.inp.start + 36 * n]
  have hhead : headerAndLimit k d b = .ok (s.defaultHeader k) v := by
    have := headerAndLimit_default (s := b) (d := d) h.plain h.noHook h.doc rfl
    rwa [show b.inp.msgLenBits = 36 * n from h.declared] at this
  have hbound : v.effBound = v.pos + 36 * n := Nat.min_eq_right h.inside
  have hfuel : n < v.turnBound := by
    rw [State.turnBound, State.rem, hbound]
    omega
  obtain ⟨q, hloop⟩ := ieLoop_regulars (d := d) n (s := v) ⟨h.doc, rfl, rfl, h.incCid⟩ h.samples h.regular
    (Nat.le_of_eq hbound.symm) hfuel
  have hargs : kindArgs (s.entered k).cfg k = (d, .legacy) := h.args
  exact segmentBody_of_ieLoop (s := s.entered k) (u := v.regularsRead n l q) (by rw [hargs]; exact hhead)
    (by rw [hargs]; exact hloop) rfl h.inside

theorem segment_of_segmentBody {h : Header} (hs : segmentBody k s = .ok h t) (ha : h.ulAppended = false) :
    segment k s = .ok () t := by
  rw [segment, bind_of_ok hs, ha, Bool.and_false]
  rfl

theorem msgCommand_regulars (h : s.RegularMessage k d n l) : msgCommand k s = callOp (segment k) (s.entered k) := by
  refine msgCommand_legal h.legal h.short (Nat.le_trans (Nat.le_add_right _ _) h.inside) fun hc => ?_
  rw [h.args] at hc
  cases hc

/-- Settles O43: a legacy message has no trailer. -/
theorem legacyMessage : Obligations.LegacyMessage := by
  intro p s n l hp hdoc hl hshort hlen hin hcid hn halt ht q
  have run : ∀ i k d, msgKindOf i = some k → isLegacyKind k = true → kindArgs s.cfg k = (d, .legacy) →
      s.cfg.hooks.lookup (.msgHdr k) = none → exec i s = .next (s.regularRegion k n l).finish := by
    intro i k d hi hk ha hn
    have hplain : isCompactKind k = false := by
      cases k with
      | dlMap => rfl
      | ulMap => rfl
      | _ => cases hk
    have h : s.RegularMessage k d n l := ⟨ha, hplain, hdoc, hl, hshort, hlen, hin, hcid, hn, halt, ht⟩
    have htrailer : hasTrailer k = false := by rw [hasTrailer, hk]; rfl
    have hbody := segmentBody_regulars h
    rw [htrailer, whenD_false, pure_bind_run, pure_run] at hbody
    rw [exec_of_msgKindOf hi, msgCommand_regulars h, callOp_of_ok (segment_of_segmentBody hbody rfl)]
  simp only [List.mem_cons, List.not_mem_nil, or_false] at hp
  rcases hp with rfl | rfl
  · exact run .msgDlMap .dlMap .dl rfl rfl rfl hn
  · exact run .msgUlMap .ulMap .ul rfl rfl rfl hn

/-- Settles O44: the trailer follows the padded region. -/
theorem reducedAasMessage : Obligations.ReducedAasMessage := by
  intro s n l hdoc hl hshort hlen hargs hcid hn halt ht q hq span
  have hin : s.inp.start + 36 * n ≤ 8 * s.inp.len := by omega
  have h : s.RegularMessage .raasPrivateMap .dl n l := ⟨hargs, rfl, hdoc, hl, hshort, hlen, hin, hcid, hn, halt, ht⟩
  let v := s.regularRegion .raasPrivateMap n l
  obtain ⟨a, htrailer⟩ := msgTrailer_raas (s := v) hdoc rfl hq
  have hbody := (segmentBody_regulars h).trans (bind_of_ok htrailer)
  have hexec := (msgCommand_regulars h).trans (callOp_of_ok (segment_of_segmentBody hbody rfl))
  refine ⟨_, hexec, rfl, rfl, rfl, rfl, rfl, rfl, rfl, rfl, ?_⟩
  exact decide_eq_true_iff

end Sys2Proof.Machine
end

section
/-! PROOFS. Compact messages of one opaque IE (45_message_decoders.md R260 to R266), alone and with an appended
uplink map. -/

namespace Sys2Proof.Machine

variable {s t u v : State} {k : MsgKind} {d : Dir} {m : CompactMap} {e n : Nat} {h : Header}

/-! ### One opaque IE that fills its region -/

/-- A Compact IE without a session effect at POS, whose body has no hook, in a region that ends at `e`. -/
structure State.OpaqueIe (s : State) (m : CompactMap) (e : Nat) : Prop where
  map : s.cfg.compactMap = some m
  doc : s.cfg.doc = {}
  width : m.codeBits ≤ 32
  begins : s.pos < e
  fits : s.pos + m.codeBits ≤ e
  inside : e ≤ s.total
  err : s.err = 0
  errPos : s.errPos = 0
  notFormat : s.compactKindAt m ≠ .formatConfiguration
  notSwitch : s.compactKindAt m ≠ .harqModeSwitch
  noHook : s.cfg.hooks.lookup (.compact (s.compactKindAt m)) = none

/-- The records of such an IE: its code, where it has any bits, and its body. -/
def State.opaqueRecs (s : State) (m : CompactMap) (e : Nat) : List OutRec :=
  s.codeRecs m.codeBits ++
    [passRec (.body (.compact (s.compactKindAt m))) (s.pos + m.codeBits) (e - (s.pos + m.codeBits))]

/-- The state after such an IE, whose region is the only limit. -/
def State.opaqueRead (s : State) (m : CompactMap) (e : Nat) : State :=
  { s with pos := e, limstk := [e], out := s.out ++ s.opaqueRecs m e, state := .ieBody }

theorem decodeIe_opaque (h : s.OpaqueIe m e) (hlim : s.limstk = [e]) :
    decodeIe d .compact (s.setSeq .ieType) = .ok () (s.opaqueRead m e) := by
  have hbound : s.effBound = e := by
    rw [State.effBound, hlim]
    exact Nat.min_eq_right h.inside
  have hdrem : (s.coded m.codeBits).drem = e - (s.pos + m.codeBits) := by
    rw [coded_drem _ (by simpa [hlim] using h.inside), hbound]
  have hskip := skipField_ok (s := s.coded m.codeBits) (id := .body (.compact (s.compactKindAt m)))
    (n := e - (s.pos + m.codeBits)) (by
      change s.pos + m.codeBits + _ ≤ s.effBound
      have := h.fits
      omega)
  have hend : (s.coded m.codeBits).pos + (e - (s.pos + m.codeBits)) = e := Nat.add_sub_cancel' h.fits
  have hbody := compactBody_coded (s := s) (call := topCall) (d := d) (m := m) (by rw [h.doc]; exact h.width)
    (by rw [hbound]; exact h.fits)
  rw [invokeHook_opaque (s := s.coded m.codeBits) h.noHook hdrem, bind_of_ok hskip,
    compactEffect_plain h.notFormat h.notSwitch, hend, pure_run] at hbody
  rw [← startIe_eq_setSeq h.err h.errPos]
  simp only [decodeIe, decodeCompactIe, getS_bind, State.startIe_cfg, h.map]
  rw [hbody]
  simp [State.opaqueRead, State.opaqueRecs, passRec, State.coded, State.startIe, State.setPos, State.emit, hlim, h.err,
    h.errPos]

theorem ieLoop_opaque (h : s.OpaqueIe m e) (hlim : s.limstk = [e]) (fuel : Nat) :
    ieLoop d .compact e (fuel + 2) s = .ok () (s.opaqueRead m e) := by
  have hmoves : ¬(s.opaqueRead m e).pos ≤ s.pos := Nat.not_le_of_lt h.begins
  have hdone : e ≤ (s.opaqueRead m e).pos := Nat.le_refl e
  rw [ieLoop, getS_bind, if_neg (Nat.not_le_of_lt h.begins), setSeq_bind, bind_of_ok (decodeIe_opaque h hlim),
    getS_bind, if_neg hmoves, ieLoop, getS_bind, if_pos hdone, pure_run]

/-! ### A segment of one such IE -/

/-- The state of a Compact segment of one such IE before its trailer. -/
def State.opaqueRegion (s : State) (m : CompactMap) (e : Nat) : State := (s.opaqueRead m e).padded

/-- And after it. -/
def State.opaqueSegment (s : State) (m : CompactMap) (e : Nat) : State :=
  (s.opaqueRegion m e).checked .trailer32 32
    (crc32 s.cfg.doc.crc32Poly s.cfg.crc32Reflect (s.opaqueRegion m e).spanBytes).toNat

/-- A Compact segment, whatever its header did to the session; the accumulator is left as R248 leaves it. -/
theorem segmentBody_opaque (hargs : kindArgs s.cfg k = (d, .compact)) (hk : isCompactKind k = true)
    (hh : msgHeader k d (s.setSeq .msgHdr) = .ok h v) (ht : h.trailer = true) (hlim : v.limstk = [])
    (hie : v.OpaqueIe m (v.pos + h.ieBits)) (hend : 8 * ((v.pos + h.ieBits + 7) / 8) + 32 ≤ v.total) :
    ∃ a, segmentBody k s = .ok h ((v.opaqueSegment m (v.pos + h.ieBits)).setAcc32 a) := by
  let e := v.pos + h.ieBits
  let r := v.setLimstk [e]
  have hpush : pushLimit h.ieBits v = .ok () r := by
    have hp := pushLimit_ok (s := v) (n := h.ieBits) (by simp [hlim, hie.doc]) (by simp [hlim])
    rwa [hlim] at hp
  have hkinds : isLegacyKind k = false ∧ k ≠ .raasPrivateMap := by
    cases k with
    | compactDlMap => exact ⟨rfl, by decide⟩
    | compactUlMap => exact ⟨rfl, by decide⟩
    | _ => cases hk
  have hhead : headerAndLimit k d (s.setSeq .msgHdr) = .ok h r := by
    rw [headerAndLimit, getS_bind, if_neg (by simp [hkinds.1]), bind_of_ok hh, bind_of_ok hpush, pure_run]
  have hloop := ieLoop_opaque (s := r) (d := d) { hie with } rfl r.rem
  obtain ⟨a, htrailer⟩ := msgTrailer_compact (s := v.opaqueRegion m e) hkinds.2 hie.doc rfl hend
  refine ⟨a, ?_⟩
  rw [segmentBody_of_ieLoop (s := s) (h := h) (v := r) (u := r.opaqueRead m e) (e := e) (by rw [hargs]; exact hhead)
    (by rw [hargs]; exact hloop) rfl hie.inside, ht]
  exact bind_of_ok htrailer

/-! ### A message of one segment -/

/-- Settles O45: the header without a hook leaves `cid_type` free. -/
theorem compactMessage : Obligations.CompactMessage := by
  intro p s m hp hdoc hl hshort hm hw hpos hfits hn c k hf hs hb e q hq span
  have hin : s.inp.start ≤ 8 * s.inp.len := by omega
  have run : ∀ (i : Instr) (mk : MsgKind) d, msgKindOf i = some mk → isCompactKind mk = true →
      kindArgs s.cfg mk = (d, .compact) → s.cfg.hooks.lookup (.msgHdr mk) = none →
      ∃ a, exec i s = .next (((((s.entered mk).setSeq .msgHdr).freedCid.opaqueSegment m e).setAcc32 a).finish) := by
    intro i mk d hi hk hargs hn
    let b := (s.entered mk).setSeq .msgHdr
    have hhead := msgHeader_default (s := b) (d := d) hn
    rw [State.headerLeft, if_pos hk] at hhead
    have hie : b.freedCid.OpaqueIe m e :=
      ⟨hm, hdoc, hw, Nat.lt_add_of_pos_right hpos, Nat.add_le_add_left hfits _, by
        change e ≤ 8 * s.inp.len
        omega, rfl, rfl, hf, hs, hb⟩
    have htrailer : (b.defaultHeader mk).trailer = true := by
      cases mk with
      | compactDlMap => rfl
      | compactUlMap => rfl
      | _ => cases hk
    obtain ⟨a, hbody⟩ := segmentBody_opaque (s := s.entered mk) hargs hk hhead htrailer rfl hie hq
    refine ⟨a, ?_⟩
    rw [exec_of_msgKindOf hi, msgCommand_legal hl hshort hin fun _ => by simp [hm],
      callOp_of_ok (segment_of_segmentBody hbody rfl)]
    rfl
  have holds : ∀ (mk : MsgKind) a,
      let t := ((((s.entered mk).setSeq .msgHdr).freedCid.opaqueSegment m e).setAcc32 a).finish
      t.out = (if m.codeBits = 0 then [] else [s.fieldRec .l0Type s.inp.start m.codeBits]) ++
          [passRec (.body (.compact k)) (s.inp.start + m.codeBits) (s.inp.msgLenBits - m.codeBits),
            s.fieldRec .trailer32 q 32] ∧
        (t.wCrc = true ↔ memRead s.mem q 32 ≠ (crc32 s.cfg.doc.crc32Poly s.cfg.crc32Reflect span).toNat) := by
    intro mk a
    have hbody : e - (s.inp.start + m.codeBits) = s.inp.msgLenBits - m.codeBits := Nat.add_sub_add_left ..
    refine ⟨?_, decide_eq_true_iff⟩
    change [] ++ (_ ++ [passRec _ _ (e - (s.inp.start + m.codeBits))]) ++ [_] = _
    rw [hbody, List.nil_append, List.append_assoc]
    rfl
  simp only [List.mem_cons, List.not_mem_nil, or_false] at hp
  rcases hp with rfl | rfl
  · obtain ⟨a, ha⟩ := run .msgCompactDlMap .compactDlMap .dl rfl rfl rfl hn
    exact ⟨_, _, ha, rfl, rfl, rfl, rfl, rfl, holds _ a⟩
  · obtain ⟨a, ha⟩ := run .msgCompactUlMap .compactUlMap .ul rfl rfl rfl hn
    exact ⟨_, _, ha, rfl, rfl, rfl, rfl, rfl, holds _ a⟩

/-! ### A message with an appended uplink map -/

/-- A header hook that takes no bits and returns `vs`. -/
theorem msgHeader_hook {hook : HookDef} {vs : List (Option Nat)} (hh : s.cfg.hooks.lookup (.msgHdr k) = some hook)
    (hr : runHook topCall (.msgHdr k) d false hook [] s = .ok (some vs) t) (hp : t.pos = s.pos) :
    msgHeader k d s =
      .ok
        { ieBits := (retAt (some vs) 0).getD t.inp.msgLenBits, ulAppended := retFlag (some vs) 1 false
          trailer := hasTrailer k && retFlag (some vs) 2 true } t := by
  have hhook := (invokeHook_hook (sb := false) (dflt := pure ()) (env := []) hh).trans hr
  rw [msgHeader, getPos_bind, bind_of_ok hhook, bind_of_ok (headerCidType_some k vs t), getS_bind, hp, Nat.sub_self]
  rfl

theorem cidTypeOf_cidTypeCode (c : CidType) : cidTypeOf (BitVec.ofNat 2 (cidTypeCode c)) = c := by
  cases c <;> rfl

/-- The session as a header leaves it that may only write `cid_type`. -/
def State.withCid (s : State) (c : CidType) : State := s.setSession { s.session with cidType := c }

/-- The header that announces an appended segment. -/
def appendHeader (s : State) : Header := { ieBits := s.inp.msgLenBits, ulAppended := true, trailer := true }

/-- A first header that announces an appended segment, and writes `cid_type` or nothing. -/
theorem msgHeader_appends {a : Nat} {prog : HookProg} {u : CidType}
    (hh : s.cfg.hooks.lookup (.msgHdr .compactDlMap) = some { prog := prog, rets := [none, some (.lit 1)] })
    (hprog : prog = .nop ∧ u = s.session.cidType ∨ prog = .writeCidType (.lit a) ∧ a = cidTypeCode u) :
    msgHeader .compactDlMap d s = .ok (appendHeader s) (s.withCid u) := by
  have hr : runHook topCall (.msgHdr .compactDlMap) d false { prog := prog, rets := [none, some (.lit 1)] } [] s =
      .ok (some [none, some 1]) (s.withCid u) := by
    rcases hprog with ⟨rfl, rfl⟩ | ⟨rfl, rfl⟩
    · rfl
    · have hwrite : s.withCid u = s.withCid (cidTypeOf (BitVec.ofNat 2 (cidTypeCode u))) := by
        rw [cidTypeOf_cidTypeCode]
      rw [hwrite]
      rfl
  exact msgHeader_hook hh hr rfl

/-- A second header: without a hook it leaves `cid_type` free, with one that does nothing it writes nothing. -/
theorem msgHeader_appended (hh : s.cfg.hooks.lookup (.msgHdr .compactUlMap) = none ∨
      s.cfg.hooks.lookup (.msgHdr .compactUlMap) = some { prog := .nop }) :
    ∃ c n, msgHeader .compactUlMap d s = .ok (s.defaultHeader .compactUlMap) ((s.setDraws n).withCid c) ∧
      (s.cfg.hooks.lookup (.msgHdr .compactUlMap) ≠ none → c = s.session.cidType) := by
  rcases hh with hnone | hsome
  · exact ⟨_, _, msgHeader_default hnone, fun h => absurd hnone h⟩
  · exact ⟨s.session.cidType, s.draws, msgHeader_hook hsome rfl rfl, fun _ => rfl⟩

/-- The message of two segments, each one SAFETY IE of `n` bytes without a code. -/
structure State.SafetyIes (s : State) (m : CompactMap) (n : Nat) : Prop where
  map : s.cfg.compactMap = some m
  doc : s.cfg.doc = {}
  noCode : m.codeBits = 0
  kind : m.table.lookup 0 = some .safety
  noHook : s.cfg.hooks.lookup (.compact .safety) = none
  declared : s.inp.msgLenBits = 8 * n
  some_bytes : 0 < n
  err : s.err = 0
  errPos : s.errPos = 0

/-- What the segment of such an IE at byte `j` leaves, its header having left `v`. -/
structure SafetySegment (v t : State) (j n : Nat) : Prop where
  pos : t.pos = 8 * (j + n) + 32
  out : t.out = v.out ++ [passRec (.body (.compact .safety)) (8 * j) (8 * n), v.fieldRec .trailer32 (8 * (j + n)) 32]
  wCrc : t.wCrc = (v.wCrc || decide (memRead v.mem (8 * (j + n)) 32 ≠
    (crc32 v.cfg.doc.crc32Poly v.cfg.crc32Reflect
      ((List.range' v.msgStartByte (j + n - v.msgStartByte)).map (readByte v.mem))).toNat))
  limstk : t.limstk = []
  session : t.session = v.session
  frame : t.mem = v.mem ∧ t.len = v.len ∧ t.start = v.start ∧ t.msgStartByte = v.msgStartByte ∧ t.inp = v.inp ∧
    t.cfg = v.cfg ∧ t.err = v.err ∧ t.errPos = v.errPos

theorem State.SafetyIes.compactKindAt (h : s.SafetyIes m n) : s.compactKindAt m = .safety := by
  rw [State.compactKindAt, h.noCode, memRead_zero, h.kind]
  rfl

theorem State.SafetyIes.opaqueIe {j : Nat} (h : s.SafetyIes m n) (hp : s.pos = 8 * j) (hb : 8 * (j + n) ≤ s.total) :
    s.OpaqueIe m (8 * (j + n)) where
  map := h.map
  doc := h.doc
  width := by rw [h.noCode]; decide
  begins := by have := h.some_bytes; omega
  fits := by rw [h.noCode]; omega
  inside := hb
  err := h.err
  errPos := h.errPos
  notFormat := by rw [h.compactKindAt]; decide
  notSwitch := by rw [h.compactKindAt]; decide
  noHook := by rw [h.compactKindAt]; exact h.noHook

theorem padded_of_aligned (h : 8 * ((s.pos + 7) / 8) = s.pos) :
    s.padded = { s with limstk := [], state := .msgCrc } := by
  rw [State.padded, h]

theorem opaqueSegment_safety {j : Nat} {a : BitVec 32} (h : v.SafetyIes m n) (hp : v.pos = 8 * j) :
    SafetySegment v ((v.opaqueSegment m (8 * (j + n))).setAcc32 a) j n := by
  have haligned : 8 * ((8 * (j + n) + 7) / 8) = 8 * (j + n) := by omega
  have hregion : v.opaqueRegion m (8 * (j + n)) =
      { v.opaqueRead m (8 * (j + n)) with limstk := [], state := .msgCrc } :=
    padded_of_aligned (s := v.opaqueRead m (8 * (j + n))) haligned
  have hrecs : v.opaqueRecs m (8 * (j + n)) = [passRec (.body (.compact .safety)) (8 * j) (8 * n)] := by
    have hbits : 8 * (j + n) - 8 * j = 8 * n := by omega
    simp [State.opaqueRecs, State.codeRecs, h.noCode, h.compactKindAt, hp, hbits]
  rw [State.opaqueSegment, hregion]
  refine ⟨rfl, ?_, ?_, rfl, rfl, rfl, rfl, rfl, rfl, rfl, rfl, rfl, rfl⟩
  · change v.out ++ v.opaqueRecs m _ ++ [_] = _
    rw [hrecs, List.append_assoc]
    rfl
  · have hbyte : 8 * (j + n) / 8 = j + n := by omega
    change (v.wCrc || decide (memRead v.mem (8 * (j + n)) 32 ≠ (crc32 _ _
      ((List.range' v.msgStartByte (8 * (j + n) / 8 - v.msgStartByte)).map (readByte v.mem))).toNat)) = _
    rw [hbyte]

/-- The segment of such an IE at byte `j`. -/
theorem segmentBody_safety {j : Nat} (hargs : kindArgs s.cfg k = (d, .compact)) (hk : isCompactKind k = true)
    (hh : msgHeader k d (s.setSeq .msgHdr) = .ok h v) (ht : h.trailer = true) (hbits : h.ieBits = 8 * n)
    (hlim : v.limstk = []) (hie : v.SafetyIes m n) (hp : v.pos = 8 * j) (hend : 8 * (j + n) + 32 ≤ v.total) :
    ∃ t, segmentBody k s = .ok h t ∧ SafetySegment v t j n := by
  have hpos : v.pos + h.ieBits = 8 * (j + n) := by omega
  obtain ⟨a, hbody⟩ := segmentBody_opaque (m := m) hargs hk hh ht hlim
    (by rw [hpos]; exact hie.opaqueIe hp (by omega)) (by rw [hpos]; omega)
  rw [hpos] at hbody
  exact ⟨_, hbody, opaqueSegment_safety hie hp⟩

/-- A downlink Compact message with an appended segment. -/
theorem segment_of_appended {g : Header} (h1 : segmentBody .compactDlMap s = .ok h t) (ha : h.ulAppended = true)
    (h2 : segmentBody .compactUlMap (t.setMsgStart (t.pos / 8)) = .ok g u) : segment .compactDlMap s = .ok () u := by
  have happended : appended t = .ok () u := by rw [appended, modS_bind, bind_of_ok h2, pure_run]
  rw [segment, bind_of_ok h1, ha]
  exact happended

theorem fieldRec_of_mem (h : v.mem = s.mem) (id : FieldId) (o w : Nat) : v.fieldRec id o w = s.fieldRec id o w := by
  rw [State.fieldRec, h]
  rfl

/-- What the second segment begins with, its header run: the first segment's records and check, and `cid_type` `w`. -/
structure AfterFirst (s v : State) (n : Nat) (w : CidType) : Prop where
  out : v.out = [passRec (.body (.compact .safety)) 0 (8 * n), s.fieldRec .trailer32 (8 * n) 32]
  wCrc : v.wCrc = decide (memRead s.mem (8 * n) 32 ≠
    (crc32 s.cfg.doc.crc32Poly s.cfg.crc32Reflect ((List.range' 0 n).map (readByte s.mem))).toNat)
  session : v.session = { s.cfg.sessionInit with cidType := w }
  msgStartByte : v.msgStartByte = n + 4
  start : v.start = 0
  err : v.err = 0
  mem : v.mem = s.mem
  cfg : v.cfg = s.cfg

/-- The first segment of such a message leaves `t`, and the second header `w`. -/
theorem afterFirst {x : Nat} {u w : CidType}
    (h : SafetySegment (((s.entered .compactDlMap).setSeq .msgHdr).withCid u) t 0 n) (hst : s.inp.start = 0) :
    AfterFirst s ((((t.setMsgStart (t.pos / 8)).setSeq .msgHdr).setDraws x).withCid w) n w := by
  obtain ⟨hmem, -, hstart, -, -, hcfg, herr, -⟩ := h.frame
  refine ⟨?_, ?_, ?_, ?_, hstart.trans hst, herr, hmem, hcfg⟩
  · change t.out = _
    rw [h.out, Nat.zero_add]
    rfl
  · have hfrom : (((s.entered .compactDlMap).setSeq .msgHdr).withCid u).msgStartByte = 0 := by
      change s.inp.start / 8 = 0
      rw [hst]
    have hcrc := h.wCrc
    rw [hfrom, Nat.zero_add] at hcrc
    exact hcrc
  · change { t.session with cidType := w } = _
    rw [h.session]
    rfl
  · change t.pos / 8 = _
    rw [h.pos]
    omega

/-- The two segments of such a message, the second ending in `t`. -/
theorem exec_appended {a : Nat} {prog : HookProg} {u : CidType} (hl : s.inp.cqichIdWidth.toNat ≤ 9)
    (hshort : s.tooLong = false) (hst : s.inp.start = 0) (hie : (s.entered .compactDlMap).SafetyIes m n)
    (hprog : prog = .nop ∧ u = s.cfg.sessionInit.cidType ∨ prog = .writeCidType (.lit a) ∧ a = cidTypeCode u)
    (h1 : s.cfg.hooks.lookup (.msgHdr .compactDlMap) = some { prog := prog, rets := [none, some (.lit 1)] })
    (h2 : s.cfg.hooks.lookup (.msgHdr .compactUlMap) = none ∨
      s.cfg.hooks.lookup (.msgHdr .compactUlMap) = some { prog := .nop })
    (hin : 2 * (8 * n + 32) ≤ 8 * s.inp.len) :
    ∃ v t w, exec .msgCompactDlMap s = .next t.finish ∧ AfterFirst s v n w ∧ SafetySegment v t (n + 4) n ∧
      (s.cfg.hooks.lookup (.msgHdr .compactUlMap) ≠ none → w = u) := by
  let b := ((s.entered .compactDlMap).setSeq .msgHdr)
  have hmap : s.cfg.compactMap = some m := hie.map
  have hmsg : msgCommand .compactDlMap s = callOp (segment .compactDlMap) (s.entered .compactDlMap) :=
    msgCommand_legal hl hshort (by omega) fun _ => by simp [hmap]
  have hhead : msgHeader .compactDlMap .dl b = .ok (appendHeader b) (b.withCid u) := msgHeader_appends h1 hprog
  obtain ⟨t1, hbody1, seg1⟩ := segmentBody_safety (s := s.entered .compactDlMap) (v := b.withCid u) (j := 0) rfl rfl
    hhead rfl hie.declared rfl { hie with } hst (by change _ ≤ 8 * s.inp.len; omega)
  obtain ⟨-, hlen, -, -, hinp, hcfg, herr, herrPos⟩ := seg1.frame
  let c := t1.setMsgStart (t1.pos / 8)
  have hccfg : c.cfg = s.cfg := hcfg
  obtain ⟨w, x, hhead2, hwrites⟩ := msgHeader_appended (s := c.setSeq .msgHdr) (d := .ul) (by
    rw [State.setSeq_cfg, hccfg]
    exact h2)
  let v := ((c.setSeq .msgHdr).setDraws x).withCid w
  have hfirst : AfterFirst s v n w := afterFirst seg1 hst
  have hbits : v.inp.msgLenBits = 8 * n := (congrArg Inputs.msgLenBits hinp).trans hie.declared
  have hie2 : v.SafetyIes m n :=
    { hie with
      map := by rw [hfirst.cfg]; exact hie.map
      doc := by rw [hfirst.cfg]; exact hie.doc
      noHook := by rw [hfirst.cfg]; exact hie.noHook
      declared := hbits, err := herr, errPos := herrPos }
  have hpos : v.pos = 8 * (n + 4) := by
    change t1.pos = _
    rw [seg1.pos]
    omega
  obtain ⟨t2, hbody2, seg2⟩ := segmentBody_safety (s := c) (j := n + 4) (d := .ul) rfl rfl hhead2 rfl hbits seg1.limstk
    hie2 hpos (by change _ ≤ 8 * t1.len; rw [hlen]; change _ ≤ 8 * s.inp.len; omega)
  refine ⟨v, t2, w, hmsg.trans (callOp_of_ok (segment_of_appended hbody1 rfl hbody2)), hfirst, seg2, fun hne => ?_⟩
  have hw := hwrites (by rw [State.setSeq_cfg, hccfg]; exact hne)
  exact hw.trans (congrArg Session.cidType seg1.session)

/-- Settles O46: the second segment runs from what the first left, its span beginning where it does. -/
theorem appendedUplinkMap : Obligations.AppendedUplinkMap := by
  intro s m n a prog u hdoc hl hshort hm hw hst hlen hpos hprog h1 h2 hk hn hin q span1 span2
  obtain ⟨v, t, w, hexec, first, second, hkept⟩ :=
    exec_appended hl hshort hst ⟨hm, hdoc, hw, hk, hn, hlen, hpos, rfl, rfl⟩ hprog h1 h2 hin
  obtain ⟨-, -, hstart, hspan, -, -, herr, -⟩ := second.frame
  have hend : t.pos = 2 * q := by rw [second.pos]; omega
  have hzero : t.start = 0 := hstart.trans first.start
  have hsecond : 8 * (n + 4 + n) = q + 8 * n := by omega
  refine ⟨t.finish, w, hexec, rfl, herr.trans first.err, hzero, hend, ?_, hspan.trans first.msgStartByte, second.limstk,
    second.session.trans first.session, hkept, ?_, ?_⟩
  · change t.pos - t.start = _
    rw [hzero, hend, Nat.sub_zero]
  · have hbody : 8 * (n + 4) = q := by omega
    change t.out = _
    rw [second.out, first.out, hbody, hsecond, fieldRec_of_mem first.mem]
    rfl
  · have hcrc := second.wCrc
    rw [first.wCrc, first.mem, first.cfg, first.msgStartByte, hsecond, Nat.add_sub_cancel_left] at hcrc
    change t.wCrc = false ↔ _
    rw [hcrc]
    simp [span1, span2]

end Sys2Proof.Machine
end

section
/-! PROOFS. Two runs of one message side by side. `Paired W` says that a predicate `W` of sub-steps, a statement about
two runs, holds of each atomic sub-step and is kept where sub-steps are put together, a look at the state being allowed
as far as both runs show the same; then it holds of every segment. The `Closed` of the laws admits any look at the
state, so no statement about two runs follows from it. -/

namespace Sys2Proof.Machine

variable {α β : Type} {W V : (α : Type) → D α → Prop} {s t : State}

/-! ### What a statement about two runs is closed under -/

/-- Two states that show the same in every register that sub-steps look at beside their atoms; the end of the open
region is apart, since it may hang on the bound of the buffer. -/
structure Alike (s t : State) : Prop where
  cfg : t.cfg = s.cfg
  session : t.session = s.session
  pos : t.pos = s.pos
  out : t.out = s.out
  msgLenBits : t.inp.msgLenBits = s.inp.msgLenBits
  cor2 : t.inp.includeCor2Changes = s.inp.includeCor2Changes

theorem Alike.cidCount (h : Alike s t) : t.cidCount = s.cidCount := by
  rw [State.cidCount, h.out]
  rfl

/-- The atoms that run with or without an open region, and the combinations. -/
structure Paired (W : (α : Type) → D α → Prop) : Prop where
  pure' : ∀ {α : Type} (a : α), W _ (pure a : D α)
  bind' : ∀ {α β : Type} {x : D α} {f : α → D β}, W _ x → (∀ a, W _ (f a)) → W _ (x >>= f)
  look' : ∀ {α : Type} {f : State → D α}, (∀ s t, Alike s t → f t = f s) → (∀ s, W _ (f s)) → W _ (getS >>= f)
  raise' : ∀ {α : Type} (e : ErrKind), W α (raise e)
  refuse' : ∀ {α : Type} (r : Refusal), W α (refuse r)
  draw' : ∀ {α : Type} (free : Nat → α), W _ (draw free)
  setSeq' : ∀ q, W _ (setSeq q)
  warnRec' : ∀ k o i, W _ (warnRec k o i)
  emitRec' : ∀ id o n v, W _ (emitRec id o n v)
  moveBits' : ∀ w, W _ (moveBits w)
  readBits' : ∀ w, W _ (readBits w)
  sampleAlt' : W _ sampleAlt
  calc16' : W _ calc16
  calc32' : W _ calc32
  modSession' : ∀ g, W _ (modSession g)

/-- A sub-step in a region of its own. -/
def inRegion (n : Nat) (x : D α) : D α := do
  pushLimit n
  let a ← x
  popLimit
  pure a

/-- And what looks at the end of the open region. -/
structure PairedIn (W : (α : Type) → D α → Prop) : Prop extends Paired W where
  lookDrem' : ∀ {α : Type} {f : Nat → D α}, (∀ n, W _ (f n)) → W _ (getS >>= fun s => f s.drem)
  inRegion' : ∀ {α : Type} (n : Nat) {x : D α}, W _ x → W _ (inRegion n x)
  whileDrem' : ∀ {α : Type} {f : α → D α}, (∀ a, W _ (f a)) → ∀ a, W _ (getS >>= fun s => whileDremD f s.turnBound a)
  ieLoop' : ∀ d f, W _ (decodeIe d f) → W _ (getS >>= fun s => ieLoop d f s.topLimit s.turnBound)

/-- The hooks that a caller of `call` invokes. -/
def Invokes (W : (α : Type) → D α → Prop) (call : HookCall → D Unit) : Prop :=
  ∀ id d sb {dflt : D Unit} env, W _ dflt → W _ (invokeHook call id d sb dflt env)

namespace Paired

variable (h : Paired W)
include h

/-! ### Fields, identifiers and checksums -/

theorem getPos' : W _ getPos := h.look' (f := fun s => pure s.pos) (fun _ _ e => by rw [e.pos]) fun _ => h.pure' _

theorem needParam' (v : Option α) (p : OpenParam) : W _ (needParam v p) := by
  cases v with
  | none => exact h.refuse' _
  | some a => exact h.pure' a

theorem whenD' (c : Bool) {x : D Unit} (hx : W _ x) : W _ (whenD c x) := by
  cases c
  · exact h.pure' ()
  · exact hx

theorem loopD' {f : α → D α} (hf : ∀ a, W _ (f a)) (n : Nat) : ∀ a, W _ (loopD f n a) := by
  induction n with
  | zero => exact fun a => h.pure' a
  | succ n ih => exact fun a => h.bind' (hf a) ih

theorem readField' (id : FieldId) (w : Nat) : W _ (readField id w) :=
  h.bind' h.getPos' fun _ => h.bind' (h.readBits' w) fun _ => h.bind' (h.emitRec' _ _ _ _) fun _ => h.pure' _

theorem skipField' (id : FieldId) (n : Nat) : W _ (skipField id n) :=
  h.bind' h.getPos' fun _ => h.bind' (h.moveBits' n) fun _ => h.emitRec' _ _ _ _

theorem padByte' : W _ padByte := h.bind' h.getPos' fun p => h.moveBits' (padAmount 8 p)

theorem rcidOp' : W _ rcidOp := by
  refine h.look' (fun _ _ e => by simp only [e.session]) fun s => ?_
  split
  · exact h.bind' (h.readBits' 16) fun _ => h.pure' _
  · exact h.bind' (h.readBits' 1) fun _ => h.bind' (h.readBits' _) fun _ => h.pure' _

theorem rcidField' : W _ rcidField :=
  h.bind' h.getPos' fun _ => h.bind' h.rcidOp' fun _ => h.bind' (h.emitRec' _ _ _ _) fun _ => h.pure' _

theorem verify16Op' : W _ verify16Op :=
  h.bind' h.calc16' fun _ => h.bind' h.getPos' fun _ => h.bind' (h.readField' _ 16) fun _ =>
    h.bind' (h.whenD' _ (h.warnRec' _ _ _)) fun _ => h.pure' _

theorem verify32Op' : W _ verify32Op :=
  h.bind' h.calc32' fun _ => h.bind' h.getPos' fun _ => h.bind' (h.readField' _ 32) fun _ =>
    h.bind' (h.whenD' _ (h.warnRec' _ _ _)) fun _ => h.pure' _

theorem crcTrailer' (b : Bool) : W _ (crcTrailer b) := h.whenD' b (h.bind' h.verify16Op' fun _ => h.pure' ())

/-! ### Parameters -/

theorem kindOf' (lvl : Level) (d : Dir) (sub : Nat) : W _ (kindOf lvl d sub) := by
  refine h.look' (fun _ _ e => by simp only [e.cfg]) fun s => ?_
  cases lvl <;> cases d
  · exact h.pure' _
  · exact h.bind' (h.needParam' _ _) fun _ => h.pure' _
  · exact h.pure' _
  · exact h.bind' (h.needParam' _ _) fun _ => h.pure' _

theorem lenWidth' (lvl : Level) (d : Dir) : W _ (lenWidth lvl d) := by
  refine h.look' (fun _ _ e => by simp only [e.cfg]) fun s => ?_
  cases lvl <;> cases d
  · exact h.pure' _
  · exact h.needParam' _ _
  · exact h.pure' _
  · exact h.pure' _

theorem layoutOf' (d : Dir) (mode : Nat) : W _ (layoutOf d mode) :=
  h.look' (fun _ _ e => by simp only [e.cfg]) fun _ => h.pure' _

theorem sbLoopKind' (d : Dir) (l : Layout) : W _ (sbLoopKind d l) :=
  h.look' (fun _ _ e => by simp only [e.cfg]) fun _ => h.needParam' _ _

theorem sbHasCrc' (d : Dir) (l : Layout) : W _ (sbHasCrc d l) :=
  h.look' (fun _ _ e => by simp only [e.cfg, e.cor2]) fun _ => h.needParam' _ _

theorem contHasCrc' (d : Dir) (l : Layout) : W _ (contHasCrc d l) :=
  h.look' (fun _ _ e => by simp only [e.cfg, e.cor2]) fun _ => h.needParam' _ _

theorem orFree' (v : Option α) (free : Nat → α) : W _ (orFree v free) := by
  cases v
  · exact h.draw' free
  · exact h.pure' _

/-! ### Regular IEs and the heads -/

theorem regBody' (k w : Nat) : W _ (regBody k w) := h.bind' (h.readField' _ _) fun _ => h.pure' ()

theorem cidListPart' (d : Dir) (f : Family) : W _ (cidListPart d f) :=
  h.look' (fun _ _ e => by simp only [e.cfg, e.session]) fun _ => h.whenD' _ <| h.bind' (h.setSeq' _) fun _ =>
    h.bind' (h.readField' _ _) fun _ => h.loopD' (fun _ => h.bind' h.rcidField' fun _ => h.pure' ()) _ _

theorem regular' (d : Dir) (f : Family) : W _ (regular d f) :=
  h.bind' h.sampleAlt' fun _ => h.bind' (h.cidListPart' d f) fun _ => h.bind' (h.setSeq' _) fun _ =>
    h.look' (fun _ _ e => by simp only [e.cfg]) fun _ => h.bind' (h.regBody' 0 _) fun _ => h.whenD' _ (h.regBody' 1 _)

theorem unassigned' (d : Dir) (f : Family) (t o : Nat) : W _ (unassigned d f t o) := by
  refine h.look' (fun _ _ e => by simp only [e.cfg]) fun s => ?_
  cases s.cfg.l0Unassigned
  · exact h.bind' (h.warnRec' _ _ _) fun _ => h.raise' _
  · exact h.regular' d f

theorem typeField' : W _ typeField := h.look' (fun _ _ e => by simp only [e.cfg]) fun _ => h.readField' _ _

theorem lenField' (lvl : Level) (d : Dir) : W _ (lenField lvl d) :=
  h.bind' (h.lenWidth' _ _) fun _ => h.bind' (h.readField' _ _) fun _ =>
    h.look' (fun _ _ e => by simp only [e.cfg]) fun _ => h.pure' _

theorem skipUnknown' (sub n o : Nat) : W _ (skipUnknown sub n o) :=
  h.bind' (h.skipField' _ _) fun _ => h.warnRec' _ _ _

theorem bodyArm' {x : D Unit} (hx : W _ x) : W _ (bodyArm x) := h.bind' (h.setSeq' _) fun _ => hx

theorem skipArm' {x : D Unit} (hx : W _ x) : W _ (skipArm x) := h.bind' (h.setSeq' _) fun _ => hx

/-! ### Headers and trailers of messages -/

theorem headerCidType' (k : MsgKind) (r : HookRets) : W _ (headerCidType k r) := by
  unfold headerCidType
  split
  · cases r
    · exact h.bind' (h.draw' _) fun _ => h.modSession' _
    · exact h.pure' ()
  · exact h.pure' ()

theorem msgHeader' (hc : Invokes W topCall) (k : MsgKind) (d : Dir) : W _ (msgHeader k d) :=
  h.bind' h.getPos' fun _ => h.bind' (hc _ _ _ _ (h.pure' ())) fun r => h.bind' (h.headerCidType' k r) fun _ =>
    h.look' (fun _ _ e => by simp only [e.msgLenBits, e.pos]) fun _ => h.pure' _

theorem msgTrailer' (k : MsgKind) : W _ (msgTrailer k) := by
  unfold msgTrailer
  split
  · exact h.bind' h.verify16Op' fun _ => h.pure' ()
  · exact h.bind' h.verify32Op' fun _ => h.pure' ()

end Paired

/-- A bracket is a region whose sub-step ends with what Close skips. -/
theorem bracket_eq_inRegion (n : Nat) (arm : D Unit) :
    bracket n arm = inRegion n (arm >>= fun _ => getS >>= fun s => closeRest s.drem) := by
  simp only [bracket, inRegion, closeIe, bind_assoc, bind_pure_unit]

namespace PairedIn

variable (h : PairedIn W)
include h

theorem closeRest' (r : Nat) : W _ (closeRest r) := by
  unfold closeRest
  split
  · exact h.pure' ()
  · exact h.bind' h.getPos' fun _ => h.bind' (h.moveBits' r) fun _ => h.warnRec' _ _ _

theorem bracket' (n : Nat) {arm : D Unit} (ha : W _ arm) : W _ (bracket n arm) := by
  rw [bracket_eq_inRegion]
  exact h.inRegion' n (h.bind' ha fun _ => h.lookDrem' h.closeRest')

theorem opaqueBody' (id : HookId) : W _ (opaqueBody id) := h.lookDrem' fun _ => h.skipField' _ _

theorem skipRest' (mode o : Nat) : W _ (skipRest mode o) :=
  h.lookDrem' (f := fun n => do skipField .reservedSkipped n; warnRec .unknownVariant o mode) fun _ =>
    h.bind' (h.skipField' _ _) fun _ => h.warnRec' _ _ _

theorem ruleCidSwitch' : W _ ruleCidSwitch :=
  h.lookDrem' (f := fun n => do
      skipField (.body (.l1 .cidSwitch)) n
      modSession fun x => { x with incCid := !x.incCid }) fun _ =>
    h.bind' (h.skipField' _ _) fun _ => h.modSession' _

section Calls

variable {call : HookCall → D Unit} (hc : Invokes W call)
include hc

/-! ### The Sub-Burst Container -/

theorem sbPart' (d : Dir) (id : HookId) : W _ (sbPart call d id) := hc _ _ _ _ (h.opaqueBody' _)

theorem sbPre' (d : Dir) (l : Layout) : W _ (sbPre call d l) :=
  h.look' (fun _ _ e => by simp only [e.cidCount]) fun _ => h.bind' (h.sbPart' hc d _) fun _ =>
    h.look' (fun _ _ e => by simp only [e.cidCount]) fun _ => h.whenD' _ (h.refuse' _)

theorem sbLayers' (d : Dir) (l : Layout) : W _ (sbLayers call d l) :=
  h.look' (fun _ _ e => by simp only [e.session]) fun _ =>
    h.whenD' _ (h.loopD' (fun _ => h.bind' (h.sbPart' hc d _) fun _ => h.pure' ()) _ _)

theorem subBurst' (d : Dir) (l : Layout) : W _ (subBurst call d l) :=
  h.bind' (h.sbPre' hc d l) fun _ => h.bind' (h.sbLayers' hc d l) fun _ => h.bind' (h.sbPart' hc d _) fun _ =>
    h.bind' (h.sbHasCrc' d l) fun b => h.crcTrailer' b

theorem sbLoopRun' (d : Dir) (l : Layout) (k : LoopKind) : W _ (sbLoopRun call d l k) := by
  cases k
  · exact h.look' (fun _ _ e => by simp only [e.cfg]) fun _ => h.bind' (h.needParam' _ _) fun _ =>
      h.bind' (h.readField' _ _) fun _ => h.loopD' (fun _ => h.subBurst' hc d l) _ _
  · exact h.whileDrem' (fun _ => h.subBurst' hc d l) ()

theorem containerBody' (d : Dir) (o mode : Nat) (sel : Option Layout) : W _ (containerBody call d o mode sel) := by
  cases sel with
  | none => exact h.skipRest' mode o
  | some l =>
    exact h.bind' (h.setSeq' _) fun _ => h.bind' (h.sbLoopKind' d l) fun k => h.bind' (h.sbLoopRun' hc d l k) fun _ =>
      h.bind' (h.setSeq' _) fun _ => h.bind' (h.contHasCrc' d l) fun b => h.crcTrailer' b

theorem container' (d : Dir) : W _ (container call d) :=
  h.bind' (h.setSeq' _) fun _ => h.bind' (hc _ _ _ _ (h.pure' ())) fun _ => h.bind' (h.setSeq' _) fun _ =>
    h.bind' h.getPos' fun _ => h.bind' (h.readField' _ 4) fun mode => h.bind' (h.layoutOf' d mode) fun l =>
      h.containerBody' hc d _ _ l

/-! ### The arms of the dispatch -/

theorem plainBody' (d : Dir) (id : HookId) : W _ (plainBody call d id) :=
  h.bind' (hc _ _ _ _ (h.opaqueBody' _)) fun _ => h.pure' ()

theorem ruleStcZone' (d : Dir) : W _ (ruleStcZone call d) :=
  h.bind' (hc _ _ _ _ (h.opaqueBody' _)) fun _ => h.bind' (h.orFree' _ _) fun _ => h.bind' (h.orFree' _ _) fun _ =>
    h.modSession' _

theorem l1Arm' (d : Dir) (n : Nat) (k : L1Kind) : W _ (l1Arm call d n k) := by
  cases k
  case cidSwitch => exact h.bodyArm' h.ruleCidSwitch'
  case stcZone => exact h.bodyArm' (h.ruleStcZone' hc d)
  case mimoBasic => exact h.skipArm' (h.skipField' _ n)
  case mimoEnhanced => exact h.skipArm' (h.skipField' _ n)
  all_goals exact h.bodyArm' (h.plainBody' hc d _)

theorem l2Arm' (d : Dir) (n : Nat) (k : L2Kind) : W _ (l2Arm call d n k) := by
  cases k
  case handoverVariant => exact h.skipArm' (h.skipField' _ n)
  case harqMap => exact h.bodyArm' (h.container' hc d)
  all_goals exact h.bodyArm' (h.plainBody' hc d _)

theorem ieArm' (d : Dir) (sub n o : Nat) (k : Option IeKind) : W _ (ieArm call d sub n o k) := by
  match k with
  | none => exact h.skipArm' (h.skipUnknown' _ _ _)
  | some (.l1 k) => exact h.l1Arm' hc d n k
  | some (.l2 k) => exact h.l2Arm' hc d n k

theorem mappedArm' (lvl : Level) (d : Dir) (sub n o : Nat) : W _ (mappedArm call lvl d sub n o) :=
  h.bind' (h.kindOf' _ _ _) fun k => h.ieArm' hc d sub n o k

theorem decodeCompactIe' (d : Dir) : W _ (decodeCompactIe call d) := by
  refine h.look' (fun _ _ e => by simp only [e.cfg]) fun s => ?_
  cases s.cfg.compactMap with
  | none => exact h.refuse' _
  | some m =>
    refine h.bind' ?_ fun c => h.bind' (h.setSeq' _) fun _ => h.bind' (hc _ _ _ _ (h.opaqueBody' _)) fun r => ?_
    · unfold compactCode
      split
      · exact h.pure' 0
      · exact h.readField' _ _
    · unfold compactEffect
      split
      · exact h.bind' (h.orFree' _ _) fun _ => h.bind' (h.orFree' _ _) fun _ => h.bind' (h.orFree' _ _) fun _ =>
          h.bind' (h.orFree' _ _) fun _ => h.modSession' _
      · exact h.bind' (h.orFree' _ _) fun _ => h.modSession' _
      all_goals exact h.pure' ()

end Calls

/-! ### IEs -/

section Top

variable (ht : Invokes W topCall)
include ht

theorem extendedWith' (lvl : Level) (d : Dir) (o : Nat) :
    W _ (extendedWith lvl d fun sub n => mappedArm topCall lvl d sub n o) :=
  h.bind' (h.setSeq' _) fun _ => h.look' (fun _ _ e => by simp only [e.cfg]) fun _ =>
    h.bind' (h.readField' _ _) fun sub => h.bind' (h.lenField' _ _) fun n =>
      h.bracket' n (h.mappedArm' ht lvl d sub n o)

theorem l0Arm' (d : Dir) (f : Family) (o t : Nat) : W _ (l0Arm d f o t) := by
  unfold l0Arm
  repeat' split
  · exact h.regular' d f
  · exact h.unassigned' d f t o
  · exact h.regular' d f
  · exact h.extendedWith' ht .two d o
  · exact h.extendedWith' ht .one d o
  · exact h.unassigned' d f t o

theorem decodeIe' (d : Dir) (f : Family) : W _ (decodeIe d f) := by
  cases f with
  | legacy => exact h.bind' h.getPos' fun o => h.bind' h.typeField' fun t => h.l0Arm' ht d _ o t
  | compact => exact h.decodeCompactIe' ht d

end Top

end PairedIn

/-! ### Segments -/

/-- The IEs of a segment, up to the end of its region. -/
def segmentIes (d : Dir) (f : Family) : D Unit := getS >>= fun s => ieLoop d f s.topLimit s.turnBound

/-- What follows the region of a segment. -/
def segmentTail (k : MsgKind) (h : Header) : D Header := do
  setSeq .msgPad
  padByte
  setSeq .msgCrc
  whenD h.trailer (msgTrailer k)
  pure h

/-- The header and the IEs: the header of a legacy kind lies in the region, that of another kind before it. -/
def segmentRegion (k : MsgKind) (d : Dir) (f : Family) : D Header :=
  if isLegacyKind k = true then
    getS >>= fun s => inRegion s.inp.msgLenBits (msgHeader k d >>= fun h => segmentIes d f >>= fun _ => pure h)
  else msgHeader k d >>= fun h => inRegion h.ieBits (segmentIes d f >>= fun _ => pure h)

theorem segmentBody_eq (k : MsgKind) :
    segmentBody k = getS >>= fun c => setSeq .msgHdr >>= fun _ =>
      segmentRegion k (kindArgs c.cfg k).1 (kindArgs c.cfg k).2 >>= segmentTail k := by
  have hlook : ∀ x : D Header, (getS >>= fun _ => x) = x := fun _ => rfl
  cases hk : isLegacyKind k <;>
    simp [segmentBody, headerAndLimit, segmentRegion, inRegion, segmentIes, segmentTail, hk, hlook]

/-- Two runs of a segment: `V` where no region need be open, `W` in one. -/
structure PairedSegments (V W : (α : Type) → D α → Prop) : Prop where
  outer : Paired V
  inner : PairedIn W
  region : ∀ {α : Type} (n : Nat) {x : D α}, W _ x → V _ (inRegion n x)
  outerHooks : Invokes V topCall
  innerHooks : Invokes W topCall
  msgStart : V _ (modS fun s => s.setMsgStart (s.pos / 8))

namespace PairedSegments

variable (h : PairedSegments V W)
include h

theorem segmentIes' (d : Dir) (f : Family) : W _ (segmentIes d f) :=
  h.inner.ieLoop' d f (h.inner.decodeIe' h.innerHooks d f)

theorem segmentRegion' (k : MsgKind) (d : Dir) (f : Family) : V _ (segmentRegion k d f) := by
  unfold segmentRegion
  split
  · exact h.outer.look' (fun _ _ e => by simp only [e.msgLenBits]) fun s =>
      h.region _ (h.inner.bind' (h.inner.msgHeader' h.innerHooks k d) fun _ =>
        h.inner.bind' (h.segmentIes' d f) fun _ => h.inner.pure' _)
  · exact h.outer.bind' (h.outer.msgHeader' h.outerHooks k d) fun _ =>
      h.region _ (h.inner.bind' (h.segmentIes' d f) fun _ => h.inner.pure' _)

theorem segmentTail' (k : MsgKind) (m : Header) : V _ (segmentTail k m) :=
  have o := h.outer
  o.bind' (o.setSeq' _) fun _ => o.bind' o.padByte' fun _ => o.bind' (o.setSeq' _) fun _ =>
    o.bind' (o.whenD' _ (o.msgTrailer' k)) fun _ => o.pure' m

theorem segmentBody' (k : MsgKind) : V _ (segmentBody k) := by
  rw [segmentBody_eq]
  exact h.outer.look' (fun _ _ e => by simp only [e.cfg]) fun _ => h.outer.bind' (h.outer.setSeq' _) fun _ =>
    h.outer.bind' (h.segmentRegion' k _ _) (h.segmentTail' k)

theorem segment' (k : MsgKind) : V _ (segment k) :=
  h.outer.bind' (h.segmentBody' k) fun _ => h.outer.whenD' _ <|
    h.outer.bind' h.msgStart fun _ => h.outer.bind' (h.segmentBody' .compactUlMap) fun _ => h.outer.pure' ()

end PairedSegments

end Sys2Proof.Machine
end

section
/-! PROOFS. A message depends on nothing an earlier decode left (45_message_decoders.md R261, R268 (a)): of what a
message finds, its entry overwrites all but the last answer of the port, and no sub-step looks at that answer. -/

namespace Sys2Proof.Machine

variable {α β : Type} {s t : State} {i : Instr} {k : MsgKind}

/-! ### Sub-steps and the last answer -/

/-- How a sub-step ended, another last answer being in place. -/
def withResult (r : Response) : EStateM.Result Stop State α → EStateM.Result Stop State α
  | .ok a t => .ok a (t.setResult r)
  | .error e t => .error e (t.setResult r)

/-- A sub-step that neither looks at the last answer nor writes it. -/
def IgnoresResult (x : D α) : Prop := ∀ s r, x (s.setResult r) = withResult r (x s)

namespace IgnoresResult

theorem of_pure (a : α) : IgnoresResult (pure a) := fun _ _ => rfl

theorem bind {x : D α} {f : α → D β} (hx : IgnoresResult x) (hf : ∀ a, IgnoresResult (f a)) :
    IgnoresResult (x >>= f) := by
  intro s r
  rw [bind_run, bind_run, hx s r]
  cases x s with
  | ok a t => exact hf a t r
  | error e t => rfl

theorem look {f : State → D α} (hf : ∀ s r, f (s.setResult r) = f s) (h : ∀ s, IgnoresResult (f s)) :
    IgnoresResult (getS >>= f) := by
  intro s r
  rw [getS_bind, getS_bind, hf]
  exact h s s r

theorem reads {f : State → α} (hf : ∀ s r, f (s.setResult r) = f s) : IgnoresResult (fun s => .ok (f s) s) := by
  intro s r
  change EStateM.Result.ok (f (s.setResult r)) _ = _
  rw [hf]
  rfl

/-- A sub-step that answers or stops by a condition on registers other than the last answer. -/
theorem of_ite {c : State → Prop} [DecidablePred c] {x y : D α} (hc : ∀ s r, c (s.setResult r) ↔ c s)
    (hx : IgnoresResult x) (hy : IgnoresResult y) : IgnoresResult (fun s => if c s then x s else y s) := by
  intro s r
  simp only [hc]
  split
  · exact hx s r
  · exact hy s r

theorem of_refuse (r : Refusal) : IgnoresResult (refuse (α := α) r) := fun _ _ => rfl

theorem moveBits (w : Nat) : IgnoresResult (Machine.moveBits w) :=
  of_ite (c := fun s => s.effBound < s.pos + w) (fun _ _ => Iff.rfl) (fun _ _ => rfl) (fun _ _ => rfl)

theorem readBits (w : Nat) : IgnoresResult (Machine.readBits w) :=
  of_ite (c := fun s => s.cfg.doc.readMaxBits < w) (fun _ _ => Iff.rfl) (of_refuse _) <|
    of_ite (c := fun s => s.effBound < s.pos + w) (fun _ _ => Iff.rfl) (fun _ _ => rfl) (fun _ _ => rfl)

theorem sampleAlt : IgnoresResult Machine.sampleAlt := by
  intro s r
  unfold Machine.sampleAlt
  rw [State.setResult_altSamples]
  split <;> rfl

theorem checksumSpan : IgnoresResult Machine.checksumSpan :=
  of_ite (c := fun s => s.msgStartByte < s.pos / 8 ∧ s.len < s.pos / 8) (fun _ _ => Iff.rfl) (fun _ _ => rfl)
    (fun _ _ => rfl)

theorem pushLimit (n : Nat) : IgnoresResult (Machine.pushLimit n) := by
  refine of_ite (c := fun s => s.cfg.doc.limDepth ≤ s.limstk.length) (fun _ _ => Iff.rfl) (of_refuse _) fun s r => ?_
  simp only [State.setResult_limstk, State.setResult_pos]
  cases s.limstk with
  | nil => rfl
  | cons t l =>
    exact of_ite (c := fun s => t < s.pos + n) (x := raise .inconsistentLength)
      (y := fun s => .ok () (s.setLimstk ((s.pos + n) :: t :: l))) (fun _ _ => Iff.rfl) (fun _ _ => rfl)
      (fun _ _ => rfl) s r

theorem popLimit : IgnoresResult Machine.popLimit := by
  intro s r
  unfold Machine.popLimit
  rw [State.setResult_limstk]
  split <;> rfl

theorem inRegion (n : Nat) {x : D α} (hx : IgnoresResult x) : IgnoresResult (Machine.inRegion n x) :=
  (pushLimit n).bind fun _ => hx.bind fun _ => popLimit.bind fun _ => of_pure _

theorem whileDremD {f : α → D α} (hf : ∀ a, IgnoresResult (f a)) (n : Nat) :
    ∀ a, IgnoresResult (Machine.whileDremD f n a) := by
  induction n with
  | zero => exact fun _ => of_refuse _
  | succ n ih =>
    refine fun a => look (fun _ _ => rfl) fun s => ?_
    split
    · exact of_pure a
    · refine (hf a).bind fun b => look (fun _ _ => rfl) fun t => ?_
      split
      · exact of_refuse _
      · exact ih b

theorem ieLoop {d : Dir} {f : Family} (hd : IgnoresResult (decodeIe d f)) (e n : Nat) :
    IgnoresResult (Machine.ieLoop d f e n) := by
  induction n with
  | zero => exact of_refuse _
  | succ n ih =>
    refine look (fun _ _ => rfl) fun s => ?_
    split
    · exact of_pure ()
    · refine bind (fun _ _ => rfl) fun _ => hd.bind fun _ => look (fun _ _ => rfl) fun t => ?_
      split
      · exact of_refuse _
      · exact ih

end IgnoresResult

theorem ignoresResult_paired : Paired (fun _ x => IgnoresResult x) where
  pure' := .of_pure
  bind' := .bind
  look' := fun hf => .look fun s r => hf s (s.setResult r) ⟨rfl, rfl, rfl, rfl, rfl, rfl⟩
  raise' := fun _ _ _ => rfl
  refuse' := .of_refuse
  draw' := fun _ _ _ => rfl
  setSeq' := fun _ _ _ => rfl
  warnRec' := fun _ _ _ _ _ => rfl
  emitRec' := fun _ _ _ _ _ _ => rfl
  moveBits' := .moveBits
  readBits' := .readBits
  sampleAlt' := .sampleAlt
  calc16' := IgnoresResult.checksumSpan.bind fun _ => .look (fun _ _ => rfl) fun _ =>
    .bind (fun _ _ => rfl) fun _ => .of_pure _
  calc32' := IgnoresResult.checksumSpan.bind fun _ => .look (fun _ _ => rfl) fun _ =>
    .bind (fun _ _ => rfl) fun _ => .of_pure _
  modSession' := fun _ _ _ => rfl

theorem ignoresResult_pairedIn : PairedIn (fun _ x => IgnoresResult x) :=
  { ignoresResult_paired with
    lookDrem' := fun h => .look (fun _ _ => rfl) fun s => h s.drem
    inRegion' := fun n _ hx => hx.inRegion n
    whileDrem' := fun h a => .look (fun _ _ => rfl) fun s => .whileDremD h s.turnBound a
    ieLoop' := fun _ _ h => .look (fun _ _ => rfl) fun s => h.ieLoop s.topLimit s.turnBound }

/-! ### Hooks -/

theorem evalExpr_setResult (s : State) (r : Response) (d : Dir) (env : Env) :
    evalExpr (s.setResult r) d env = evalExpr s d env := by
  funext e
  induction e with
  | lit | slot | session | pos | rem | drem | dirUl | cqichIdWidth | includeCor2Changes => rfl
  | slotAt i ih => simp only [evalExpr, ih]
  | symbolCount i ih => simp only [evalExpr, ih, State.setResult_session]
  | _ a b iha ihb => simp only [evalExpr, iha, ihb]

namespace IgnoresResult

theorem evalD (d : Dir) (env : Env) (e : HookExpr) : IgnoresResult (Machine.evalD d env e) :=
  reads fun s r => congrFun (evalExpr_setResult s r d env) e

theorem evalField (d : Dir) (env : Env) (e : Option HookExpr) : IgnoresResult (Machine.evalField d env e) :=
  reads fun s r => by simp only [evalExpr_setResult]

theorem evalRets (d : Dir) (env : Env) (h : HookDef) : IgnoresResult (Machine.evalRets d env h) :=
  reads fun s r => by simp only [evalExpr_setResult]

theorem emitHook (id : HookId) (k : Option Nat) (o n : Nat) (v : Option Nat) :
    IgnoresResult (Machine.emitHook id k o n v) := by
  cases k with
  | none => exact of_pure ()
  | some k => exact fun _ _ => rfl

theorem hookEmit (id : HookId) (k o n : Nat) (b : Bool) : IgnoresResult (Machine.hookEmit id k o n b) :=
  of_ite (c := fun s => s.emitFloor id ≤ o ∧ o + n ≤ s.pos) (fun _ _ => Iff.rfl) (fun _ _ => rfl) (of_refuse _)

theorem hookWriteNLayer (id : HookId) (v : Nat) : IgnoresResult (Machine.hookWriteNLayer id v) := by
  unfold Machine.hookWriteNLayer
  split
  · exact fun _ _ => rfl
  · exact of_refuse _

theorem hookWriteCidType (id : HookId) (v : Nat) : IgnoresResult (Machine.hookWriteCidType id v) := by
  unfold Machine.hookWriteCidType
  split
  · exact fun _ _ => rfl
  · exact of_refuse _

theorem readTwo (a b : Nat) : IgnoresResult (Machine.readTwo a b) :=
  (readBits a).bind fun _ => (readBits b).bind fun _ => of_pure _

theorem closeIe : IgnoresResult Machine.closeIe :=
  look (fun _ _ => rfl) fun _ => (ignoresResult_pairedIn.closeRest' _).bind fun _ => popLimit

/-- A hook's program, whatever it calls. -/
theorem runProg {call : HookCall → D Unit} (hc : ∀ c, IgnoresResult (call c)) (id : HookId) (d : Dir) (sb : Bool)
    (p : HookProg) : ∀ env, IgnoresResult (Machine.runProg call id d sb p env) := by
  have h := ignoresResult_pairedIn
  induction p with
  | nop => exact fun env => of_pure env
  | assign x e => exact fun env => (evalD _ _ _).bind fun _ => of_pure _
  | assignAt x e => exact fun env => (evalD _ _ _).bind fun _ => (evalD _ _ _).bind fun _ => of_pure _
  | read x w field =>
    exact fun env => (evalD _ _ _).bind fun _ => (evalField _ _ _).bind fun _ => h.getPos'.bind fun _ =>
      (readBits _).bind fun _ => (emitHook _ _ _ _ _).bind fun _ => of_pure _
  | read48 x field =>
    exact fun env => (evalField _ _ _).bind fun _ => h.getPos'.bind fun _ => (readTwo _ _).bind fun _ =>
      (emitHook _ _ _ _ _).bind fun _ => of_pure _
  | read64 x field =>
    exact fun env => (evalField _ _ _).bind fun _ => h.getPos'.bind fun _ => (readTwo _ _).bind fun _ =>
      (emitHook _ _ _ _ _).bind fun _ => of_pure _
  | rcid x y emit =>
    intro env
    refine bind ?_ fun _ => of_pure _
    unfold rcidAs
    split
    · exact h.rcidField'
    · exact h.rcidOp'
  | skip w field =>
    exact fun env => (evalD _ _ _).bind fun _ => (evalField _ _ _).bind fun _ => h.getPos'.bind fun _ =>
      (moveBits _).bind fun _ => (emitHook _ _ _ _ _).bind fun _ => of_pure _
  | padn => exact fun env => (h.getPos'.bind fun p => moveBits (padAmount 4 p)).bind fun _ => of_pure env
  | padb => exact fun env => h.padByte'.bind fun _ => of_pure env
  | emit k o n b =>
    exact fun env => (evalD _ _ _).bind fun _ => (evalD _ _ _).bind fun _ => (evalD _ _ _).bind fun _ =>
      (hookEmit _ _ _ _ _).bind fun _ => of_pure env
  | warn k o info =>
    exact fun env => (evalD _ _ _).bind fun _ => (evalD _ _ _).bind fun _ => (h.warnRec' _ _ _).bind fun _ =>
      of_pure env
  | verify16 => exact fun env => h.verify16Op'.bind fun _ => of_pure _
  | control k => exact fun env => (hc _).bind fun _ => of_pure env
  | nestedIe kind ul sub lenBits ieStart =>
    exact fun env => (evalD _ _ _).bind fun _ => (evalD _ _ _).bind fun _ => (evalD _ _ _).bind fun _ =>
      (evalD _ _ _).bind fun _ => (hc _).bind fun _ => of_pure env
  | region lenBits a ih =>
    exact fun env => (evalD _ _ _).bind fun n => (pushLimit n).bind fun _ => (ih env).bind fun _ =>
      closeIe.bind fun _ => of_pure _
  | container ul => exact fun env => (evalD _ _ _).bind fun _ => (hc _).bind fun _ => of_pure env
  | seq a b iha ihb => exact fun env => (iha env).bind ihb
  | ite c a b iha ihb =>
    intro env
    refine (evalD _ _ _).bind fun n => ?_
    split
    · exact iha env
    · exact ihb env
  | loop n a ih => exact fun env => (evalD _ _ _).bind fun k => h.loopD' ih k env
  | whileDrem a ih => exact fun env => h.whileDrem' ih env
  | writeNLayer e => exact fun env => (evalD _ _ _).bind fun v => (hookWriteNLayer id v).bind fun _ => of_pure env
  | writeCidType e => exact fun env => (evalD _ _ _).bind fun v => (hookWriteCidType id v).bind fun _ => of_pure env

theorem invokes {call : HookCall → D Unit} (hc : ∀ c, IgnoresResult (call c)) :
    Invokes (fun _ x => IgnoresResult x) call := by
  intro id d sb dflt env hd
  refine look (fun _ _ => rfl) fun s => ?_
  cases s.cfg.hooks.lookup id with
  | none => exact hd.bind fun _ => of_pure none
  | some h => exact (runProg hc id d sb h.prog env).bind fun e => evalRets d e h

theorem callHook (n : Nat) : ∀ c, IgnoresResult (Machine.callHook n c) := by
  have h := ignoresResult_pairedIn
  induction n with
  | zero => exact fun _ => of_refuse _
  | succ n ih =>
    intro c
    cases c with
    | control k d sb => exact (invokes ih _ _ _ _ (of_pure ())).bind fun _ => of_pure ()
    | container d => exact h.container' (invokes ih) d
    | nested kind d sub lenBits ieStart =>
      refine h.bracket' lenBits ?_
      cases kind with
      | given k => exact h.ieArm' (invokes ih) d sub lenBits ieStart k
      | mapped lvl => exact h.mappedArm' (invokes ih) lvl d sub lenBits ieStart

theorem topCall (c : HookCall) : IgnoresResult (Machine.topCall c) := look (fun _ _ => rfl) fun _ => callHook _ c

theorem pairedSegments : PairedSegments (fun _ x => IgnoresResult x) (fun _ x => IgnoresResult x) where
  outer := ignoresResult_paired
  inner := ignoresResult_pairedIn
  region := fun n _ hx => hx.inRegion n
  outerHooks := invokes topCall
  innerHooks := invokes topCall
  msgStart := fun _ _ => rfl

end IgnoresResult

/-! ### The entry -/

/-- An operation on a state with another last answer: its end writes the answer anew. -/
theorem callOp_setResult {x : D Unit} (h : IgnoresResult x) (s : State) (r : Response) :
    callOp x (s.setResult r) = callOp x s := by
  rw [callOp, callOp, h s r]
  cases x s with
  | ok a t => rfl
  | error e t => cases e <;> rfl

/-- A message as one equation: the refusals of its inputs in their order, then its segment from the entered state. -/
theorem msgCommand_eq (k : MsgKind) (s : State) :
    msgCommand k s =
      if 9 < s.inp.cqichIdWidth.toNat then .refused .badConfig
      else if s.tooLong = true ∨ 8 * s.inp.len < s.inp.start then .refused .badInit
      else if (kindArgs s.cfg k).2 = .compact ∧ s.cfg.compactMap = none then .refused .noCompactMap
      else callOp (segment k) (s.entered k) := by
  split_ifs with hl hinit hcompact
  · have hrun : checkCqich s = .error (.refused .badConfig) s := if_pos hl
    exact callOp_of_refused (bind_of_error hrun)
  · refine callOp_of_refused (t := s) ?_
    rw [bind_of_ok (checkCqich_run (Nat.le_of_not_lt hl))]
    exact bind_of_error (initCursor_bad hinit)
  · obtain ⟨hf, hm⟩ := hcompact
    have hshort : s.tooLong = false := by simpa using fun h => hinit (.inl h)
    have hcheck : checkCompact .compact (s.initCall s.inp.start) =
        .error (.refused .noCompactMap) (s.initCall s.inp.start) := by
      unfold checkCompact
      rw [show (s.initCall s.inp.start).cfg.compactMap = none from hm]
    refine callOp_of_refused (t := s.initCall s.inp.start) ?_
    rw [bind_of_ok (checkCqich_run (Nat.le_of_not_lt hl)),
      bind_of_ok (initCursor_ok hshort (Nat.le_of_not_lt fun h => hinit (.inr h))), hf]
    exact bind_of_error hcheck
  · have hshort : s.tooLong = false := by simpa using fun h => hinit (.inl h)
    exact msgCommand_legal (Nat.le_of_not_lt hl) hshort (Nat.le_of_not_lt fun h => hinit (.inr h)) fun hf =>
      Option.isSome_iff_ne_none.mpr fun hm => hcompact ⟨hf, hm⟩

/-- Settles O47: the entered states differ in the last answer only. -/
theorem messagesForgetThePast : Obligations.MessagesForgetThePast := by
  intro i s t hi hmem hinp hcfg halt hdraws h16 h32 hport
  obtain ⟨k, hk⟩ := Option.isSome_iff_exists.mp hi
  have hentered : t.entered k = (s.entered k).setResult t.result := by
    simp [State.entered, State.initCall, State.enterMsg, State.setResult, hmem, hinp, hcfg, halt, hdraws, h16, h32,
      hport]
  have hlong : t.tooLong = s.tooLong := by rw [State.tooLong, State.tooLong, hcfg, hinp]
  rw [exec_of_msgKindOf hk, exec_of_msgKindOf hk, msgCommand_eq, msgCommand_eq, hentered,
    callOp_setResult (IgnoresResult.pairedSegments.segment' k), hlong, hinp, hcfg]

end Sys2Proof.Machine
end

section
/-! PROOFS. On a buffer cut short a message's records are the first of those on the whole one (45_message_decoders.md
R268 (b), 40_bit_cursor.md R132 (e)): the two runs go in step until the cut one ends Truncated,
and what the whole one does after that only adds. -/

namespace Sys2Proof.Machine

variable {α β : Type} {s s' t t' : State} {m : Memory} {n : Nat} {C : List Nat → Prop}

/-! ### The cut buffer -/

/-- The state with a buffer `m` of `n` bytes. -/
def State.cutTo (s : State) (m : Memory) (n : Nat) : State :=
  { s with mem := m, len := n, inp := { s.inp with len := n } }

/-- `m` holds the first `n` bytes of the buffer, and no hook is supplied. -/
structure State.Cuttable (s : State) (m : Memory) (n : Nat) : Prop where
  noHooks : s.cfg.hooks = []
  shorter : n ≤ s.len
  agrees : ∀ a < n, readByte m a = readByte s.mem a

/-- A field inside the bytes that two buffers share. -/
theorem memRead_congr {m m' : Memory} {n p w : Nat} (h : ∀ a < n, readByte m a = readByte m' a) (hp : p + w ≤ 8 * n) :
    memRead m p w = memRead m' p w := by
  induction w with
  | zero => rfl
  | succ w ih =>
    have hbyte : readByte m ((p + w) / 8) = readByte m' ((p + w) / 8) := h _ (by omega)
    rw [memRead, memRead, ih (by omega), bufBit, bufBit, hbyte]

/-- The bound of the cut buffer lies in it, and not past that of the whole one. -/
theorem cutTo_effBound_le (h : s.Cuttable m n) :
    (s.cutTo m n).effBound ≤ 8 * n ∧ (s.cutTo m n).effBound ≤ s.effBound := by
  have hle : 8 * n ≤ 8 * s.len := Nat.mul_le_mul_left 8 h.shorter
  refine ⟨effBound_le_total _, ?_⟩
  unfold State.effBound
  change (match s.limstk with | [] => 8 * n | t :: _ => min (8 * n) t) ≤ _
  cases s.limstk with
  | nil => exact hle
  | cons t l => exact min_le_min_right t hle

/-- With a region open, what is declared and where it ends are the same. -/
theorem cutTo_drem (h : s.limstk ≠ []) : (s.cutTo m n).drem = s.drem ∧ (s.cutTo m n).topLimit = s.topLimit := by
  obtain ⟨b, l, hl⟩ := List.exists_cons_of_ne_nil h
  have hc : (s.cutTo m n).limstk = b :: l := hl
  simp only [State.drem, State.topLimit, hl, hc]
  exact ⟨rfl, rfl⟩

theorem cutTo_spanBytes (h : s.Cuttable m n) (hp : s.pos / 8 ≤ s.msgStartByte ∨ s.pos / 8 ≤ n) :
    (s.cutTo m n).spanBytes = s.spanBytes := by
  refine List.map_congr_left fun a ha => h.agrees a ?_
  obtain ⟨(hfrom : s.msgStartByte ≤ a), (hto : a < s.msgStartByte + (s.pos / 8 - s.msgStartByte))⟩ :=
    List.mem_range'_1.mp ha
  omega

/-! ### How the cut run of a sub-step compares with the whole one -/

/-- The whole run of a sub-step and the cut one: in step, or the cut one Truncated with no more records and
warnings than the whole one, or one of them without a next state. -/
inductive CutEnds (m : Memory) (n : Nat) : EStateM.Result Stop State α → EStateM.Result Stop State α → Prop
  | same (a : α) (t : State) (h : t.Cuttable m n) : CutEnds m n (.ok a t) (.ok a (t.cutTo m n))
  | stopped (e : Stop) (t : State) : CutEnds m n (.error e t) (.error e (t.cutTo m n))
  | short (r : EStateM.Result Stop State α) (p : Nat) (t : State) (hout : t.out <+: (endState r).out)
    (hwarn : t.warn <+: (endState r).warn) : CutEnds m n r (.error (.raised .truncated p) t)
  | noWhole (e : Stop) (t : State) (r : EStateM.Result Stop State α) (h : ∀ k p, e ≠ .raised k p) :
    CutEnds m n (.error e t) r
  | noCut (r : EStateM.Result Stop State α) (e : Stop) (t : State) (h : ∀ k p, e ≠ .raised k p) :
    CutEnds m n r (.error e t)

theorem CutEnds.of_refused (r : Refusal) : CutEnds (α := α) m n (.error (.refused r) s) (.error (.refused r) t) :=
  .noWhole _ _ _ fun _ _ => by simp

/-- Sub-steps one after another: the second parts need only be compared where the first ended ok in both runs. -/
theorem CutEnds.bind {x : D α} {f g : α → D β} (hx : CutEnds m n (x s) (x s'))
    (hf : ∀ a t, x s = .ok a t → t.Cuttable m n → CutEnds m n (f a t) (g a (t.cutTo m n)))
    (hg : ∀ a, WithinStates Advances (f a)) : CutEnds m n ((x >>= f) s) ((x >>= g) s') := by
  rw [bind_run, bind_run]
  generalize hr : x s = r at hx
  generalize x s' = r' at hx
  cases hx with
  | same a t h => exact hf a t hr h
  | stopped e t => exact .stopped e t
  | noCut r e t h => exact .noCut _ _ _ h
  | noWhole e t r h => exact .noWhole _ _ _ h
  | short r p t hout hwarn =>
    cases r with
    | error e u => exact .short _ p t hout hwarn
    | ok a u =>
      have hmore := Within.ends (hg a) u
      exact .short _ p t (hout.trans hmore.out_prefix) (hwarn.trans hmore.warn_prefix)

theorem limstk_of_pushLimit {k : Nat} {u : Unit} (h : pushLimit k s = .ok u t) :
    t.limstk = (s.pos + k) :: s.limstk := by
  rcases pushLimit_cases k s with ⟨e, -, -⟩ | e | e <;> rw [e] at h <;> cases h
  rfl

/-! ### Sub-steps that only add, and leave the regions as they are -/

/-- A sub-step that only adds to the records and the warnings, and where it answers leaves LIMSTK as it found it. -/
structure Steady (x : D α) : Prop where
  grows : WithinStates Advances x
  balanced : Balanced x

namespace Steady

/-- What both laws give of a sub-step made of steady ones. -/
theorem of_family {ι : Type} {y : ι → D β} {x : D α} (hy : ∀ i, Steady (y i))
    (h : ∀ V : (α : Type) → D α → Prop, ClosedAll V → (∀ i, V _ (y i)) → V _ x) : Steady x :=
  ⟨h _ advances_execRule.movesAll.closedAll fun i => (hy i).grows, h _ balanced_closed fun i => (hy i).balanced⟩

theorem of_closed {x : D α} (h : ∀ V : (α : Type) → D α → Prop, ClosedAll V → V _ x) : Steady x :=
  ⟨h _ advances_execRule.movesAll.closedAll, h _ balanced_closed⟩

theorem of_modS {g : State → State} (hg : ∀ s, Advances s (g s)) (hl : ∀ s, (g s).limstk = s.limstk) :
    Steady (modS g) :=
  ⟨hg, balanced_mods g hl⟩

/-- A sub-step that leaves the state as it is. -/
theorem of_stays {x : D α} (h : ∀ s, endState (x s) = s) : Steady x := by
  refine ⟨fun s => ?_, fun s a t e => ?_⟩
  · have hs := h s
    cases e : x s <;> rw [e] at hs <;> cases hs <;> exact Advances.refl _
  · have hs := h s
    rw [e] at hs
    cases hs
    rfl

theorem bind {x : D α} {f : α → D β} (hx : Steady x) (hf : ∀ a, Steady (f a)) : Steady (x >>= f) :=
  ⟨advances_execRule.movesAll.bind' hx.grows fun a => (hf a).grows, balanced_bind hx.balanced fun a => (hf a).balanced⟩

theorem getS : Steady Machine.getS := of_closed fun _ h => h.getS'

theorem inRegion (k : Nat) {x : D α} (hx : Steady x) : Steady (Machine.inRegion k x) := by
  have h := advances_execRule.movesAll
  refine ⟨h.bind' (h.pushLimit' k) fun _ => h.bind' hx.grows fun a => h.bind' h.popLimit' fun _ => h.pure' a, ?_⟩
  intro s a t hrun
  obtain ⟨_, s1, hpush, hrest⟩ := bind_eq_ok hrun
  obtain ⟨b, s2, hbody, hend⟩ := bind_eq_ok hrest
  obtain ⟨_, s3, hpop, hpure⟩ := bind_eq_ok hend
  cases hpure
  have hl := (hx.balanced _ _ _ hbody).trans (limstk_of_pushLimit hpush)
  rw [popLimit_ok hl] at hpop
  cases hpop
  rfl

end Steady

/-! ### The statement about two runs -/

/-- A steady sub-step whose two runs compare, from any state whose open regions satisfy `C`. -/
structure CutSafe (C : List Nat → Prop) (x : D α) : Prop where
  steady : Steady x
  ends : ∀ m n s, s.Cuttable m n → C s.limstk → CutEnds m n (x s) (x (s.cutTo m n))

namespace CutSafe

theorem bind {x : D α} {f : α → D β} (hx : CutSafe C x) (hf : ∀ a, CutSafe C (f a)) : CutSafe C (x >>= f) where
  steady := hx.steady.bind fun a => (hf a).steady
  ends m n s h hc :=
    CutEnds.bind (hx.ends m n s h hc)
      (fun a t hrun ht => (hf a).ends m n t ht (by rwa [hx.steady.balanced _ _ _ hrun])) fun a => (hf a).steady.grows

/-- A sub-step that answers what both runs show and writes what both run alike. -/
theorem of_same {x : D α} (hx : Steady x) {a : State → α} {g : State → State} (hrun : ∀ s, x s = .ok (a s) (g s))
    (h : ∀ s m n, s.Cuttable m n → (g s).Cuttable m n ∧ a (s.cutTo m n) = a s ∧ g (s.cutTo m n) = (g s).cutTo m n) :
    CutSafe C x where
  steady := hx
  ends m n s hs _ := by
    obtain ⟨hc, ha, hg⟩ := h s m n hs
    rw [hrun, hrun, ha, hg]
    exact .same _ _ hc

theorem of_pure (a : α) : CutSafe C (pure a) :=
  of_same (.of_closed fun _ h => h.pure' a) (a := fun _ => a) (g := id) (fun _ => rfl) fun _ _ _ h => ⟨h, rfl, rfl⟩

theorem of_modS {g : State → State} (hx : Steady (modS g))
    (h : ∀ s m n, s.Cuttable m n → (g s).Cuttable m n ∧ g (s.cutTo m n) = (g s).cutTo m n) : CutSafe C (modS g) :=
  of_same hx (a := fun _ => ()) (g := g) (fun _ => rfl) fun s m n hs => ⟨(h s m n hs).1, rfl, (h s m n hs).2⟩

theorem of_refuse (r : Refusal) : CutSafe C (refuse (α := α) r) where
  steady := .of_closed fun _ h => h.refuse' r
  ends _ _ _ _ _ := .of_refused r

theorem look {f : State → D α} (hf : ∀ s m n, s.Cuttable m n → C s.limstk → f (s.cutTo m n) = f s)
    (h : ∀ s, CutSafe C (f s)) : CutSafe C (getS >>= f) where
  steady := Steady.getS.bind fun s => (h s).steady
  ends m n s hs hc := by
    rw [getS_bind, getS_bind, hf s m n hs hc]
    exact (h s).ends m n s hs hc

/-- A steady sub-step whose cut run is Truncated before it adds anything. -/
theorem ends_short {x : D α} (hx : Steady x) (s : State) (p : Nat) :
    CutEnds m n (x s) (.error (.raised .truncated p) (s.cutTo m n)) :=
  .short _ _ _ (Within.ends hx.grows s).out_prefix (Within.ends hx.grows s).warn_prefix

theorem moveBits (w : Nat) : CutSafe C (Machine.moveBits w) where
  steady := .of_closed fun _ h => h.moveBits' w
  ends m n s hs _ := by
    rcases moveBits_cases w (s.cutTo m n) with ⟨hb, e⟩ | ⟨_, e⟩ <;> rw [e]
    · rw [moveBits_ok (s := s) (Nat.le_trans hb (cutTo_effBound_le hs).2)]
      exact .same _ _ { hs with }
    · exact ends_short (.of_closed fun _ h => h.moveBits' w) s _

theorem readBits (w : Nat) : CutSafe C (Machine.readBits w) where
  steady := .of_closed fun _ h => h.readBits' w
  ends m n s hs _ := by
    obtain ⟨hin, hle⟩ := cutTo_effBound_le hs
    rcases readBits_cases w (s.cutTo m n) with ⟨_, e⟩ | ⟨hw, hb, e⟩ | ⟨_, _, e⟩ <;> rw [e]
    · exact .noCut _ _ _ fun _ _ => by simp
    · have hval : memRead m s.pos w = memRead s.mem s.pos w := memRead_congr hs.agrees (Nat.le_trans hb hin)
      rw [readBits_ok (s := s) hw (Nat.le_trans hb hle), ← hval]
      exact .same _ _ { hs with }
    · exact ends_short (.of_closed fun _ h => h.readBits' w) s _

theorem sampleAlt : CutSafe C Machine.sampleAlt where
  steady := .of_closed fun _ h => h.sampleAlt'
  ends m n s hs _ := by
    rcases sampleAlt_cases s with ⟨b, l, hl, e⟩ | ⟨hnone, e⟩
    · rw [e, sampleAlt_fixed (s := s.cutTo m n) hl]
      exact .same _ _ { hs with }
    · have hcut : (s.cutTo m n).altSamples = [] := hnone
      rw [e, Machine.sampleAlt, hcut]
      exact .same _ _ { hs with }

theorem checksumSpan : CutSafe C Machine.checksumSpan where
  steady := .of_stays fun s => by rcases checksumSpan_cases s with e | ⟨_, e⟩ <;> rw [e] <;> rfl
  ends m n s hs _ := by
    by_cases hp : s.pos / 8 ≤ s.msgStartByte ∨ s.pos / 8 ≤ n
    · rw [checksumSpan_ok (s := s.cutTo m n) hp, checksumSpan_ok (hp.imp_right fun h => h.trans hs.shorter),
        cutTo_spanBytes hs hp]
      exact .same _ _ hs
    · have hfault : Machine.checksumSpan (s.cutTo m n) = .error (.faulted .outsideBuffer) (s.cutTo m n) :=
        if_pos ⟨Nat.lt_of_not_le fun h => hp (.inl h), Nat.lt_of_not_le fun h => hp (.inr h)⟩
      rw [hfault]
      exact .noCut _ _ _ fun _ _ => by simp

theorem setAcc16 (g : Params → BitVec 16) : CutSafe C (modS fun s => s.setAcc16 (g s.cfg)) :=
  of_modS (.of_modS (fun s => { Advances.refl s with }) fun _ => rfl) fun _ _ _ hs => ⟨{ hs with }, rfl⟩

theorem setAcc32 (g : Params → BitVec 32) : CutSafe C (modS fun s => s.setAcc32 (g s.cfg)) :=
  of_modS (.of_modS (fun s => { Advances.refl s with }) fun _ => rfl) fun _ _ _ hs => ⟨{ hs with }, rfl⟩

theorem paired : Paired (fun _ x => CutSafe C x) where
  pure' := of_pure
  bind' := bind
  look' := fun hf => look fun s m n _ _ => hf s (s.cutTo m n) ⟨rfl, rfl, rfl, rfl, rfl, rfl⟩
  raise' := fun e => { steady := .of_closed fun _ h => h.raise' e, ends := fun _ _ _ _ _ => .stopped _ _ }
  refuse' := of_refuse
  draw' := fun free =>
    of_same (.of_closed fun _ h => h.draw' free) (fun _ => rfl) fun _ _ _ hs => ⟨{ hs with }, rfl, rfl⟩
  setSeq' := fun q => of_modS (.of_closed fun _ h => h.setSeq' q) fun _ _ _ hs => ⟨{ hs with }, rfl⟩
  warnRec' := fun k o i => of_modS (.of_closed fun _ h => h.warnRec' k o i) fun _ _ _ hs => ⟨{ hs with }, rfl⟩
  emitRec' := fun _ _ _ _ =>
    of_modS (.of_modS (fun s => .emit s _) fun _ => rfl) fun _ _ _ hs => ⟨{ hs with }, rfl⟩
  moveBits' := moveBits
  readBits' := readBits
  sampleAlt' := sampleAlt
  calc16' := checksumSpan.bind fun ds => look (fun _ _ _ _ _ => rfl) fun _ =>
    (setAcc16 fun c => crc16Acc c.doc.crc16Poly (c.crc16Reflect.getD Config.freeCrc16Reflect) ds).bind fun _ =>
      of_pure _
  calc32' := checksumSpan.bind fun ds => look (fun _ _ _ _ _ => rfl) fun _ =>
    (setAcc32 fun c => crc32Acc c.doc.crc32Poly c.crc32Reflect ds).bind fun _ => of_pure _
  modSession' := fun _ =>
    of_modS (.of_modS (fun s => { Advances.refl s with }) fun _ => rfl) fun _ _ _ hs => ⟨{ hs with }, rfl⟩

/-! ### Regions and loops -/

/-- PUSHLIM looks at the limits only, which both runs show alike. -/
theorem pushLimit_ends (k : Nat) (hs : s.Cuttable m n) :
    CutEnds m n (pushLimit k s) (pushLimit k (s.cutTo m n)) := by
  rcases Nat.lt_or_ge s.limstk.length s.cfg.doc.limDepth with hd | hd
  · by_cases hb : ∀ b ∈ s.limstk.head?, s.pos + k ≤ b
    · rw [pushLimit_ok hd hb, pushLimit_ok (s := s.cutTo m n) hd hb]
      exact .same _ _ { hs with }
    · push Not at hb
      obtain ⟨b, hhead, hlt⟩ := hb
      have hl := List.eq_cons_of_mem_head? hhead
      have hdepth : s.limstk.tail.length + 1 < s.cfg.doc.limDepth := by
        rw [hl] at hd
        exact hd
      rw [pushLimit_inconsistent hl hdepth hlt, pushLimit_inconsistent (s := s.cutTo m n) hl hdepth hlt]
      exact .stopped _ _
  · rw [pushLimit_overflow hd]
    exact .noWhole _ _ _ fun _ _ => by simp

theorem inRegion (k : Nat) {x : D α} (hx : CutSafe (· ≠ []) x) : CutSafe C (Machine.inRegion k x) where
  steady := hx.steady.inRegion k
  ends m n s hs _ := by
    have g := advances_execRule.movesAll
    have hrest : ∀ a, WithinStates Advances (popLimit >>= fun _ => pure a : D α) := fun a =>
      g.bind' g.popLimit' fun _ => g.pure' a
    refine CutEnds.bind (pushLimit_ends k hs) (fun _ t hpush ht => ?_) fun _ => g.bind' hx.steady.grows hrest
    have hopen := limstk_of_pushLimit hpush
    refine CutEnds.bind (hx.ends m n t ht (by simp [hopen])) (fun a u hbody hu => ?_) hrest
    have hl : u.limstk = (s.pos + k) :: s.limstk := (hx.steady.balanced _ _ _ hbody).trans hopen
    rw [bind_of_ok (popLimit_ok hl), bind_of_ok (popLimit_ok (s := u.cutTo m n) hl)]
    exact .same _ _ { hu with }

/-- One turn of a loop: a sub-step that must move the cursor, then the rest, which may differ in how many turns it
allows. -/
theorem turn_ends {x : D α} {f g : α → D β} {s : State} (hx : CutSafe (· ≠ []) x) (hs : s.Cuttable m n)
    (hl : s.limstk ≠ []) (p : Nat) (hf : ∀ a, Steady (f a))
    (hfg : ∀ a t, t.Cuttable m n → t.limstk ≠ [] → CutEnds m n (f a t) (g a (t.cutTo m n))) :
    CutEnds m n
      ((x >>= fun a => getS >>= fun t => if t.pos ≤ p then refuse .hookContract else f a) s)
      ((x >>= fun a => getS >>= fun t => if t.pos ≤ p then refuse .hookContract else g a) (s.cutTo m n)) := by
  have hsteady : ∀ a, Steady (getS >>= fun t => if t.pos ≤ p then refuse .hookContract else f a) := fun a =>
    Steady.getS.bind fun t => by
      split
      · exact .of_closed fun _ h => h.refuse' _
      · exact hf a
  refine CutEnds.bind (hx.ends m n s hs hl) (fun a t hrun ht => ?_) fun a => (hsteady a).grows
  rw [getS_bind, getS_bind]
  change CutEnds m n ((if t.pos ≤ p then _ else _ : D β) t) ((if t.pos ≤ p then _ else _ : D β) _)
  split
  · exact .of_refused _
  · exact hfg a t ht (by rwa [hx.steady.balanced _ _ _ hrun])

/-- Two loops to the declared end, each of as many turns as its run allows. -/
theorem whileDremD_ends {f : α → D α} (hf : ∀ a, CutSafe (· ≠ []) (f a)) (p : Nat) :
    ∀ (q : Nat) (a : α) (s : State), s.Cuttable m n → s.limstk ≠ [] →
      CutEnds m n (whileDremD f p a s) (whileDremD f q a (s.cutTo m n)) := by
  induction p with
  | zero => exact fun _ _ _ _ _ => .noWhole _ _ _ fun _ _ => by simp
  | succ p ih =>
    intro q a s hs hl
    cases q with
    | zero => exact .noCut _ _ _ fun _ _ => by simp
    | succ q =>
      rw [whileDremD, whileDremD, getS_bind, getS_bind, (cutTo_drem hl).1]
      split
      · exact .same a s hs
      · exact turn_ends (hf a) hs hl s.pos
          (fun b => .of_family (fun b => (hf b).steady) fun _ h hf => h.whileDremD' hf p b) fun b => ih q b

/-- Two loops over the IEs of a segment. -/
theorem ieLoop_ends {d : Dir} {f : Family} (hd : CutSafe (· ≠ []) (decodeIe d f)) (e p : Nat) :
    ∀ (q : Nat) (s : State), s.Cuttable m n → s.limstk ≠ [] →
      CutEnds m n (ieLoop d f e p s) (ieLoop d f e q (s.cutTo m n)) := by
  induction p with
  | zero => exact fun _ _ _ _ => .noWhole _ _ _ fun _ _ => by simp
  | succ p ih =>
    intro q s hs hl
    cases q with
    | zero => exact .noCut _ _ _ fun _ _ => by simp
    | succ q =>
      rw [ieLoop, ieLoop, getS_bind, getS_bind]
      change CutEnds m n ((if e ≤ s.pos then _ else _ : D Unit) s) ((if e ≤ s.pos then _ else _ : D Unit) _)
      split
      · exact .same () s hs
      · exact turn_ends (s := s.setSeq .ieType) hd { hs with } hl s.pos
          (fun _ => .of_closed fun _ h => h.ieLoop' d f e p) fun _ => ih q

theorem pairedIn : PairedIn (fun _ x => CutSafe (· ≠ []) x) :=
  { paired with
    lookDrem' := fun hf => look (fun _ _ _ _ hl => by rw [(cutTo_drem hl).1]) fun s => hf s.drem
    inRegion' := fun k _ hx => hx.inRegion k
    whileDrem' := fun hf a =>
      { steady := Steady.getS.bind fun s => .of_family (fun b => (hf b).steady) fun _ h hf => h.whileDremD' hf _ a
        ends := fun _ _ s hs hl => whileDremD_ends hf s.turnBound _ a s hs hl }
    ieLoop' := fun d f hd =>
      { steady := Steady.getS.bind fun s => .of_closed fun _ h => h.ieLoop' d f _ _
        ends := fun m n s hs hl => by
          rw [getS_bind, getS_bind, (cutTo_drem hl).2]
          exact ieLoop_ends hd _ _ _ s hs hl } }

/-- With no hook supplied the default runs. -/
theorem invokes : Invokes (fun _ x => CutSafe C x) topCall := by
  intro id d sb dflt env hd
  have hdefault : CutSafe C (dflt >>= fun _ => pure none : D HookRets) := hd.bind fun _ => of_pure none
  have hrun : ∀ s, s.cfg.hooks = [] → invokeHook topCall id d sb dflt env s = (dflt >>= fun _ => pure none) s := by
    intro s hs
    simp only [invokeHook, getS_bind, hs, List.lookup_nil]
  refine ⟨.of_family (fun _ : Unit => hd.steady) fun _ h hd => h.invokeHook' h.topCall' id (h.hookWriteCidType' id) d sb
    (hd ()) env, fun m n s hs hc => ?_⟩
  rw [hrun s hs.noHooks, hrun (s.cutTo m n) hs.noHooks]
  exact hdefault.ends m n s hs hc

theorem pairedSegments : PairedSegments (fun _ x => CutSafe (fun _ => True) x) (fun _ x => CutSafe (· ≠ []) x) where
  outer := paired
  inner := pairedIn
  region := fun k _ hx => hx.inRegion k
  outerHooks := invokes
  innerHooks := invokes
  msgStart := of_modS (.of_modS (fun s => { Advances.refl s with }) fun _ => rfl) fun _ _ _ hs => ⟨{ hs with }, rfl⟩

end CutSafe

/-! ### The operation -/

/-- What two operations answer whose sub-steps compare. -/
theorem CutEnds.callOp {x y : D Unit} (h : CutEnds m n (x s) (y s')) (hx : callOp x s = .next t)
    (hy : Machine.callOp y s' = .next t') :
    t'.out <+: t.out ∧ t'.warn <+: t.warn ∧
      (t'.err = 1 ∨ t'.out = t.out ∧ t'.warn = t.warn ∧ t'.err = t.err ∧ t'.pos = t.pos ∧ t'.session = t.session) := by
  have hall : t.out = (endState (x s)).out ∧ t.warn = (endState (x s)).warn := by
    rcases callOp_eq_next hx with ⟨u, hu, rfl⟩ | ⟨e, p, u, hu, rfl⟩ <;> rw [hu] <;> exact ⟨rfl, rfl⟩
  have raises : ∀ {z : D Unit} {b u v : State} {e : Stop}, z b = .error e u → Machine.callOp z b = .next v →
      ∃ k p, e = .raised k p ∧ v = u.stop k p := by
    intro z b u v e hz hv
    rcases callOp_eq_next hv with ⟨w, hw, -⟩ | ⟨k, p, w, hw, hend⟩ <;> rw [hz] at hw <;> cases hw
    exact ⟨k, p, rfl, hend⟩
  generalize hr : x s = r at h hall
  generalize hr' : y s' = r' at h
  cases h with
  | same a u _ =>
    rw [callOp_of_ok hr] at hx
    rw [callOp_of_ok hr'] at hy
    cases hx
    cases hy
    exact ⟨List.prefix_rfl, List.prefix_rfl, .inr ⟨rfl, rfl, rfl, rfl, rfl⟩⟩
  | stopped e u =>
    obtain ⟨k, p, rfl, rfl⟩ := raises hr hx
    rw [callOp_of_raised hr'] at hy
    cases hy
    exact ⟨List.prefix_rfl, List.prefix_rfl, .inr ⟨rfl, rfl, rfl, rfl, rfl⟩⟩
  | short _ p u hout hwarn =>
    rw [callOp_of_raised hr'] at hy
    cases hy
    exact ⟨hall.1 ▸ hout, hall.2 ▸ hwarn, .inl rfl⟩
  | noWhole e u _ hne =>
    obtain ⟨k, p, he, -⟩ := raises hr hx
    exact absurd he (hne k p)
  | noCut _ e u hne =>
    obtain ⟨k, p, he, -⟩ := raises hr' hy
    exact absurd he (hne k p)

/-- Settles O48. -/
theorem cutBufferGivesAPrefix : Obligations.CutBufferGivesAPrefix := by
  intro i s t t' m n hi hhooks hle hagree hwhole hcut
  obtain ⟨k, hk⟩ := Option.isSome_iff_exists.mp hi
  rw [exec_of_msgKindOf hk] at hwhole hcut
  have hs : (s.entered k).Cuttable m n := ⟨hhooks, hle, hagree⟩
  exact (CutSafe.pairedSegments.segment' k |>.ends m n _ hs trivial).callOp (msgCommand_entered hwhole).2
    (msgCommand_entered hcut).2

end Sys2Proof.Machine
end

section
/-! PROOFS. What an IE or MSG operation is refused for before it touches any state (60_exceptions.md R285, R287). -/

namespace Sys2Proof.Machine

variable {i : Instr} {s : State} {k : MsgKind}

theorem checkCompact_refuses (hm : s.cfg.compactMap = none) :
    checkCompact .compact s = .error (.refused .noCompactMap) s := by
  unfold checkCompact
  rw [hm]

/-- An IE operation that begins with the check of the Compact map; the start of an IE leaves the parameters alone. -/
theorem ieOp_noCompactMap {f : Unit → D Unit} (hl : s.inp.cqichIdWidth.toNat ≤ 9) (hm : s.cfg.compactMap = none) :
    ieOp (checkCompact .compact >>= f) s = .refused .noCompactMap := by
  have hcheck : checkCompact .compact s.startIe = .error (.refused .noCompactMap) s.startIe :=
    checkCompact_refuses (by rw [State.startIe_cfg, hm])
  rw [ieOp_eq hl]
  exact callOp_of_refused (bind_of_error hcheck)

/-- Every Compact IE operation begins with that check. -/
theorem exec_compactIe_eq_check (hi : isCompactIe i = true) (s : State) :
    ∃ f : Unit → D Unit, exec i s = ieOp (checkCompact .compact >>= f) s := by
  cases i
  case compactIe | ieDlCompact | ieUlCompact => exact ⟨_, rfl⟩
  all_goals cases hi

theorem msgCommand_badConfig (h : 9 < s.inp.cqichIdWidth.toNat) : msgCommand k s = .refused .badConfig := by
  rw [msgCommand_eq, if_pos h]

/-- A message of the Compact family, its inputs legal otherwise. -/
theorem msgCommand_noCompactMap (hk : (kindArgs s.cfg k).2 = .compact) (hl : s.inp.cqichIdWidth.toNat ≤ 9)
    (ht : s.tooLong = false) (hs : s.inp.start ≤ 8 * s.inp.len) (hm : s.cfg.compactMap = none) :
    msgCommand k s = .refused .noCompactMap := by
  have hinit : ¬ (s.tooLong = true ∨ 8 * s.inp.len < s.inp.start) := by simp [ht, hs]
  rw [msgCommand_eq, if_neg (Nat.not_lt.mpr hl), if_neg hinit, if_pos ⟨hk, hm⟩]

/-- Settles O40: by the check with which each of the three groups begins. -/
theorem illegalInputsAreRefused : Obligations.IllegalInputsAreRefused := by
  refine ⟨fun i s hi hbad => ?_, fun i s hi hl hm => ?_, fun s hl ht hs hm =>
    ⟨msgCommand_noCompactMap rfl hl ht hs hm, msgCommand_noCompactMap rfl hl ht hs hm⟩⟩
  · rcases or_assoc.mpr hi with hie | hmsg
    · obtain ⟨x, hx, -⟩ := exec_ie_eq hie s
      rw [hx, ieOp_badConfig hbad]
    · obtain ⟨k, hk⟩ := Option.isSome_iff_exists.mp hmsg
      rw [exec_of_msgKindOf hk, msgCommand_badConfig hbad]
  · obtain ⟨f, hf⟩ := exec_compactIe_eq_check hi s
    rw [hf, ieOp_noCompactMap hl hm]

end Sys2Proof.Machine
end
